-- ==== Sys2Proof/Word.lean ====
section
/-!
DEFINITION. The word types of the block: a byte of the input stream, and a completed frame seen as one word
(20_memory.md R43: byte 0 is the high byte).
-/

namespace Sys2Proof

/-- One byte of the device's stream (20_memory.md R44). -/
abbrev Byte := BitVec 8

/-- A 6-byte frame as the word `W = B0:B1:B2:B3:B4:B5`, B0 in `W[47:40]` (20_memory.md R43). -/
abbrev FrameWord := BitVec 48

/-- A 4-byte frame as the word `W = B0:B1:B2:B3`, B0 in `W[31:24]` (20_memory.md R43). -/
abbrev ShortFrameWord := BitVec 32

/-- A firmware version identifier (10_state.md R10). -/
abbrev Firmware := BitVec 24

/-- The operands of CFG_LOAD packed into one 37-bit word; the packing is notation only (30_encoding.md R50 and the
CFG_LOAD row of opcode_table.json). -/
abbrev ConfigWord := BitVec 37

end Sys2Proof
end

