-- ==== Sys2Proof/Syntax.lean ====
section
/-!
DEFINITION. The instructions: one constructor per row of spec/opcode_table.json (two port transactions and thirteen
frame classes, 30_encoding.md R50 to R56), with every operand the row's encoding holds.
-/

namespace Sys2Proof

/-- The protocol generation (10_state.md R11, "values 1 to 4"). -/
inductive Generation where
  | g1 | g2 | g3 | g4
deriving DecidableEq, Repr, Inhabited

/-- CFG_LOAD's third operand: none, or the explicit value 0 (10_state.md R14, R16; 30_encoding.md R50). -/
inductive ParityOverride where
  | absent
  | forceZero
deriving DecidableEq, Repr

/-- The fields of a generation-3 Head frame (30_encoding.md R51). The `u` fields are bits no rule of the source
interprets; they are kept since `PW_LAYOUT` reads the whole frame (42_position_decoder.md R103). -/
structure HeadFields where
  /-- B0[5:4], uninterpreted. -/
  u0      : BitVec 2
  /-- B0[1:0]: bit 0 left, bit 1 right. -/
  buttons : BitVec 2
  /-- B1[7:4], uninterpreted. -/
  u1      : BitVec 4
  /-- B1[3:0]:B2. -/
  x       : BitVec 12
  /-- B3[5:4], uninterpreted. -/
  u3      : BitVec 2
  /-- B4[7:4], uninterpreted. -/
  u4      : BitVec 4
  /-- B4[3:0]:B5. -/
  yraw    : BitVec 12
deriving DecidableEq, Repr

/-- The fields of a generation-3 Tail frame (30_encoding.md R51): those of a Head frame and the uninterpreted B3[0]. -/
structure TailFields where
  /-- B0[5:4], uninterpreted. -/
  u0      : BitVec 2
  /-- B0[1:0]: bit 0 left, bit 1 right. -/
  buttons : BitVec 2
  /-- B1[7:4], uninterpreted. -/
  u1      : BitVec 4
  /-- B1[3:0]:B2. -/
  x       : BitVec 12
  /-- B3[5:4], uninterpreted. -/
  u3      : BitVec 2
  /-- B3[0], uninterpreted in a Tail frame. -/
  u3low   : BitVec 1
  /-- B4[7:4], uninterpreted. -/
  u4      : BitVec 4
  /-- B4[3:0]:B5. -/
  yraw    : BitVec 12
deriving DecidableEq, Repr

/-- One constructor per row of spec/opcode_table.json. The first two are the port transactions of 30_encoding.md R50;
the others are the frame classes of R54 to R56, each carrying the completed frame it stands for. -/
inductive Instr where
  /-- BYTE_IN(v), 40_frame_assembly.md R70. -/
  | byteIn (v : Byte)
  /-- CFG_LOAD(fw, ymax, parity_override), 10_state.md R16. -/
  | cfgLoad (fw : Firmware) (ymax : BitVec 12) (override : ParityOverride)
  /-- V3_DEBOUNCE, 41_classifier.md R81. -/
  | v3Debounce
  /-- V3_HEAD_F0, 42_position_decoder.md R105. -/
  | v3HeadF0 (f : HeadFields)
  /-- V3_HEAD_F1, 42_position_decoder.md R106. -/
  | v3HeadF1 (f : HeadFields)
  /-- V3_HEAD_F2, 42_position_decoder.md R107. -/
  | v3HeadF2 (f : HeadFields)
  /-- V3_HEAD_F3, 42_position_decoder.md R109. -/
  | v3HeadF3 (f : HeadFields)
  /-- V3_TAIL_F0, 42_position_decoder.md R105. -/
  | v3TailF0 (f : TailFields)
  /-- V3_TAIL_F1, 42_position_decoder.md R106. -/
  | v3TailF1 (f : TailFields)
  /-- V3_TAIL_F2, 42_position_decoder.md R108. -/
  | v3TailF2 (f : TailFields)
  /-- V3_TAIL_F3, 42_position_decoder.md R109. -/
  | v3TailF3 (f : TailFields)
  /-- V3_UNKNOWN, 41_classifier.md R84: every generation-3 word no other row takes. -/
  | v3Unknown (w : FrameWord)
  /-- V1_FRAME, 41_classifier.md R86. -/
  | v1Frame (w : ShortFrameWord)
  /-- V2_FRAME, 41_classifier.md R91. -/
  | v2Frame (w : FrameWord)
  /-- V4_FRAME, 41_classifier.md R91. -/
  | v4Frame (w : FrameWord)
deriving DecidableEq, Repr

end Sys2Proof
end

