-- ==== Sys2Proof/Machine/Registers.lean ====
section
/-!
DEFINITION. The registers of the block (10_state.md section 1), grouped as the spec groups them: profile, frame
assembler, decode state (two finger tracks and the gesture state), output registers.
-/

namespace Sys2Proof.Machine

/-- CFG_PKTSIZE, "values 4, 6" (10_state.md R12). -/
inductive FrameLength where
  | four | six
deriving DecidableEq, Repr, Inhabited

/-- The number of bytes a frame length stands for. -/
def FrameLength.toNat : FrameLength → Nat
  | .four => 4
  | .six => 6

/-- The profile, written only by CFG_LOAD and reset (10_state.md R10 to R16). -/
structure Profile where
  /-- PROFILE_VALID (R16, R17). -/
  valid    : Bool
  /-- CFG_FW (R10). -/
  fw       : Firmware
  /-- CFG_GEN (R11). -/
  gen      : Generation
  /-- CFG_PKTSIZE (R12). -/
  pktsize  : FrameLength
  /-- CFG_YMAX (R13), unsigned. -/
  ymax     : BitVec 12
  /-- CFG_PARITY_EN (R14). -/
  parityEn : Bool
  /-- CFG_JUMPY (R15), read by no rule. -/
  jumpy    : Bool
  /-- CFG_PRESSURE (R15), read by no rule. -/
  pressure : Bool
deriving DecidableEq, Repr, Inhabited

/-- The frame assembler (10_state.md R19). -/
structure Assembler where
  /-- FB[0..5], byte 0 first. -/
  fb  : Vector Byte 6
  /-- CNT, the bytes of the current frame received so far, 0 to 5. -/
  cnt : Fin 6
deriving DecidableEq, Repr, Inhabited

/-- A finger slot, 0 or 1 (10_state.md R20). -/
inductive SlotId where
  | s0 | s1
deriving DecidableEq, Repr

/-- The finger track of one slot (10_state.md R20, R21; 43_tap_gesture.md R130). -/
structure FingerTrack where
  /-- POS_VALID. -/
  posValid   : Bool
  /-- POS_X, unsigned. -/
  posX       : BitVec 12
  /-- POS_Y, signed. -/
  posY       : BitVec 13
  /-- START_VALID. -/
  startValid : Bool
  /-- START_X, unsigned. -/
  startX     : BitVec 12
  /-- START_Y, signed. -/
  startY     : BitVec 13
  /-- TAP_IN_RANGE. -/
  tapInRange : Bool
deriving DecidableEq, Repr, Inhabited

/-- The gesture state (10_state.md R23 to R25). -/
structure Gesture where
  /-- LAST_COUNT. -/
  lastCount  : BitVec 2
  /-- TAP_TO_CLICK. -/
  tapToClick : Bool
  /-- LAST_VALID. -/
  lastValid  : Bool
  /-- LAST_X, unsigned. -/
  lastX      : BitVec 12
  /-- LAST_Y, signed. -/
  lastY      : BitVec 13
deriving DecidableEq, Repr, Inhabited

/-- The verdict of a frame (10_state.md R22). Its codes stand in Machine/Flags.lean. -/
inductive Verdict where
  | none | debounce | head | tail | unknown | parityPass | parityFail | unsupported
deriving DecidableEq, Repr, Inhabited

/-- The status outputs. -/
structure Status where
  /-- VERDICT (10_state.md R22). -/
  verdict   : Verdict
  /-- MALFORMED (42_position_decoder.md R112). -/
  malformed : Bool
deriving DecidableEq, Repr, Inhabited

/-- The event port (10_state.md R26, 42_position_decoder.md R111). -/
structure EventPort where
  /-- EV_VALID, a strobe. -/
  valid   : Bool
  /-- EV_DX, two's complement. -/
  dx      : BitVec 16
  /-- EV_DY, two's complement. -/
  dy      : BitVec 16
  /-- EV_BUTTONS, bit 0 left, bit 1 right. -/
  buttons : BitVec 2
deriving DecidableEq, Repr, Inhabited

/-- The diagnostic outputs (10_state.md R27, 42_position_decoder.md R103). -/
structure Diagnostics where
  /-- DIAG_PRESSURE. -/
  pressure : BitVec 8
  /-- DIAG_WIDTH. -/
  width    : BitVec 4
deriving DecidableEq, Repr, Inhabited

/-- All registers of the block at once, for a value of them that no rule gives (60_exceptions.md R159; log 19). -/
structure Registers where
  profile : Profile
  asm     : Assembler
  slot0   : FingerTrack
  slot1   : FingerTrack
  gesture : Gesture
  status  : Status
  event   : EventPort
  diag    : Diagnostics
deriving DecidableEq, Repr, Inhabited

end Sys2Proof.Machine
end

