-- ==== Sys2Proof/Config.lean ====
section
/-!
DEFINITION. The OPEN parameters of the spec (00_scope.md section 3), as constants without a body: no proof can see a
value of them. `Y_MAX` is an operand of CFG_LOAD and `TIMESTAMP` an argument of the outbound event, so neither stands
here. Beside them, the free values of the registers after a power transition.
-/

namespace Sys2Proof

/-- Three bit positions in byte 0 of a generation-1 frame: `(q1, q2, q3)`, the parity fields of bytes 1, 2 and 3
(30_encoding.md R55). -/
structure ParityPos where
  q1 : Fin 8
  q2 : Fin 8
  q3 : Fin 8
deriving DecidableEq, Repr, Inhabited

/-- The two layouts of the parity fields, which differ: the one thing the source fixes of them (30_encoding.md R55,
41_classifier.md R87). The defaults only show that such a pair exists. -/
structure ParityLayouts where
  /-- The layout of firmware below 0x020000. -/
  older  : ParityPos := ⟨0, 0, 0⟩
  /-- The layout of firmware 0x020000 and above. -/
  newer  : ParityPos := ⟨0, 0, 1⟩
  differ : older ≠ newer := by decide
deriving Inhabited

/-- `V1_PARITY_POS` (41_classifier.md R87; log 5). DESIGN CHOICE, safe: any two layouts that differ. -/
opaque Config.parityLayouts : ParityLayouts

/-- What `PW_LAYOUT` extracts from a frame (42_position_decoder.md R103). -/
structure PressureWidth where
  pressure : BitVec 8
  width    : BitVec 4
deriving DecidableEq, Repr, Inhabited

/-- `PW_LAYOUT(B)`, a function of the whole frame word (42_position_decoder.md R103; log 6). DESIGN CHOICE, safe. -/
opaque Config.pressureWidth : FrameWord → PressureWidth

/-- What the registers hold after the n-th power transition, of which the spec says only that the state is "not specified
to survive" (60_exceptions.md R159; log 19). DESIGN CHOICE, safe: a fresh free value each time. -/
opaque Config.afterPowerTransition : Nat → Machine.Registers

end Sys2Proof
end

