-- ==== Sys2Proof/WellFormed.lean ====
section
/-!
DEFINITION. When an instruction stands for a word of its row. The operand types already bound every field; what is left
is the priority of 30_encoding.md R53: a word belongs to the first row that matches it. The tests here are those of R52
on the frame word, with mask and match; the decoder's are those of 41_classifier.md R80 on the bytes.
-/

namespace Sys2Proof

/-- The mask and match values of one class on the frame word. -/
structure WordPattern where
  mask     : FrameWord
  expected : FrameWord
deriving DecidableEq, Repr

/-- A word matches a pattern when its masked bits are the expected ones. -/
def WordPattern.takes (p : WordPattern) (w : FrameWord) : Bool := w &&& p.mask == p.expected

/-- Debounce (30_encoding.md R52): every bit is fixed. -/
def WordPattern.debounce : WordPattern := ⟨0xFFFFFFFFFFFF#48, 0xC4FFFF02FFFF#48⟩

/-- Head (30_encoding.md R52). -/
def WordPattern.head : WordPattern := ⟨0x0C0000CF0000#48, 0x040000020000#48⟩

/-- Tail (30_encoding.md R52). -/
def WordPattern.tail : WordPattern := ⟨0x0C0000CE0000#48, 0x0C00000C0000#48⟩

/-- The one Head frame with three fingers whose word is the Debounce word, [C4 FF FF 02 FF FF] read by the fields of
30_encoding.md R51: it belongs to V3_DEBOUNCE (R53, R54). -/
def HeadFields.debounce : HeadFields :=
  ⟨0#2, 0#2, 0xF#4, 0xFFF#12, 0#2, 0xF#4, 0xFFF#12⟩

/-- An instruction is well formed when its row is the first that takes its word (30_encoding.md R53, R54). -/
def Instr.wf : Instr → Bool
  | .byteIn _ => true
  | .cfgLoad _ _ _ => true
  | .v3Debounce => true
  | .v3HeadF0 _ => true
  | .v3HeadF1 _ => true
  | .v3HeadF2 _ => true
  | .v3HeadF3 f => f != HeadFields.debounce
  | .v3TailF0 _ => true
  | .v3TailF1 _ => true
  | .v3TailF2 _ => true
  | .v3TailF3 _ => true
  | .v3Unknown w => !(WordPattern.debounce.takes w || WordPattern.head.takes w || WordPattern.tail.takes w)
  | .v1Frame _ => true
  | .v2Frame _ => true
  | .v4Frame _ => true

end Sys2Proof
end

