-- ==== Sys2Proof/Decode.lean ====
section
/-!
DEFINITION. Decoding (total, rejecting by name) and, after it, encoding. The bytes of a frame are in arrival order; the
classifier's patterns are those of 41_classifier.md R80 on the bytes, the operand fields those of 30_encoding.md R57.
-/

namespace Sys2Proof

/-! ## Bytes and words (20_memory.md R41, R43) -/

/-- The 6-byte frame word `B0:B1:B2:B3:B4:B5` (20_memory.md R43). -/
def frameWord (b0 b1 b2 b3 b4 b5 : Byte) : FrameWord := b0 ++ b1 ++ b2 ++ b3 ++ b4 ++ b5

/-- The 4-byte frame word `B0:B1:B2:B3` (20_memory.md R43). -/
def shortFrameWord (b0 b1 b2 b3 : Byte) : ShortFrameWord := b0 ++ b1 ++ b2 ++ b3

/-- Byte `i` of a 6-byte frame word: B0 is `W[47:40]` (20_memory.md R43). -/
def frameByte (w : FrameWord) (i : Nat) : Byte := w.extractLsb' (8 * (5 - i)) 8

/-- Byte `i` of a 4-byte frame word: B0 is `W[31:24]` (20_memory.md R43). -/
def shortFrameByte (w : ShortFrameWord) (i : Nat) : Byte := w.extractLsb' (8 * (3 - i)) 8

/-! ## The generation-3 classifier (41_classifier.md R80) and the operand fields (30_encoding.md R57) -/

/-- The class of a generation-3 frame (41_classifier.md R80). -/
inductive FrameClass where
  | debounce | head | tail | unknown
deriving DecidableEq, Repr

/-- ClassifyV3 (41_classifier.md R80), in the priority order of 30_encoding.md R53. -/
def classifyV3 (w : FrameWord) : FrameClass :=
  if frameByte w 0 = 0xC4 ∧ frameByte w 1 = 0xFF ∧ frameByte w 2 = 0xFF ∧
     frameByte w 3 = 0x02 ∧ frameByte w 4 = 0xFF ∧ frameByte w 5 = 0xFF then .debounce
  else if frameByte w 0 &&& 0x0C = 0x04 ∧ frameByte w 3 &&& 0xCF = 0x02 then .head
  else if frameByte w 0 &&& 0x0C = 0x0C ∧ frameByte w 3 &&& 0xCE = 0x0C then .tail
  else .unknown

/-- FingersOf (30_encoding.md R57): B0[7:6]. -/
def fingersOf (w : FrameWord) : BitVec 2 := (frameByte w 0).extractLsb' 6 2

/-- ButtonsOf (30_encoding.md R57): B0[1:0], bit 0 left, bit 1 right. -/
def buttonsOf (w : FrameWord) : BitVec 2 := (frameByte w 0).extractLsb' 0 2

/-- XOf (30_encoding.md R57): B1[3:0]:B2. -/
def xOf (w : FrameWord) : BitVec 12 := (frameByte w 1).extractLsb' 0 4 ++ frameByte w 2

/-- YrawOf (30_encoding.md R57): B4[3:0]:B5. -/
def yrawOf (w : FrameWord) : BitVec 12 := (frameByte w 4).extractLsb' 0 4 ++ frameByte w 5

/-- The fields of a Head frame (30_encoding.md R51). -/
def headFields (w : FrameWord) : HeadFields where
  u0 := (frameByte w 0).extractLsb' 4 2
  buttons := buttonsOf w
  u1 := (frameByte w 1).extractLsb' 4 4
  x := xOf w
  u3 := (frameByte w 3).extractLsb' 4 2
  u4 := (frameByte w 4).extractLsb' 4 4
  yraw := yrawOf w

/-- The fields of a Tail frame (30_encoding.md R51). -/
def tailFields (w : FrameWord) : TailFields where
  u0 := (frameByte w 0).extractLsb' 4 2
  buttons := buttonsOf w
  u1 := (frameByte w 1).extractLsb' 4 4
  x := xOf w
  u3 := (frameByte w 3).extractLsb' 4 2
  u3low := (frameByte w 3).extractLsb' 0 1
  u4 := (frameByte w 4).extractLsb' 4 4
  yraw := yrawOf w

/-! ## Decoding -/

/-- The row of a generation-3 frame: its class, and for Head and Tail its finger count (30_encoding.md R54). -/
def decodeV3 (w : FrameWord) : Instr :=
  match classifyV3 w with
  | .debounce => .v3Debounce
  | .head =>
    if fingersOf w = 0 then .v3HeadF0 (headFields w)
    else if fingersOf w = 1 then .v3HeadF1 (headFields w)
    else if fingersOf w = 2 then .v3HeadF2 (headFields w)
    else .v3HeadF3 (headFields w)
  | .tail =>
    if fingersOf w = 0 then .v3TailF0 (tailFields w)
    else if fingersOf w = 1 then .v3TailF1 (tailFields w)
    else if fingersOf w = 2 then .v3TailF2 (tailFields w)
    else .v3TailF3 (tailFields w)
  | .unknown => .v3Unknown w

/-- The operands of CFG_LOAD in its 37-bit word: fw in 36:13, ymax in 12:1, parity_override in bit 0, 1 for "force 0"
(opcode_table.json, row CFG_LOAD). -/
def decodeConfig (c : ConfigWord) : Instr :=
  .cfgLoad (c.extractLsb' 13 24) (c.extractLsb' 1 12) (if c.extractLsb' 0 1 = 1#1 then .forceZero else .absent)

/-- The row of a completed frame held in the frame buffer, by the generation in force (40_frame_assembly.md R73). A
generation-1 frame is FB[0..3], any other FB[0..5]. -/
def decodeFrame (g : Generation) (fb : Vector Byte 6) : Instr :=
  match g with
  | .g1 => .v1Frame (shortFrameWord fb[0] fb[1] fb[2] fb[3])
  | .g2 => .v2Frame (frameWord fb[0] fb[1] fb[2] fb[3] fb[4] fb[5])
  | .g3 => decodeV3 (frameWord fb[0] fb[1] fb[2] fb[3] fb[4] fb[5])
  | .g4 => .v4Frame (frameWord fb[0] fb[1] fb[2] fb[3] fb[4] fb[5])

/-- Where a word is read: one of the two ports (30_encoding.md R50) or the completed frame of a generation (R51, R55,
R56). The word itself holds no opcode field that tells them apart (R50, R59). -/
inductive Format where
  | port8
  | portCfg
  | frame (g : Generation)
deriving DecidableEq, Repr

/-- Why bytes are no instruction of a format. -/
inductive DecodeError where
  /-- The format has another length (30_encoding.md R50, R59). -/
  | wrongLength (fmt : Format) (got : Nat)
  /-- The 37-bit configuration word is written in five bytes and one of the three bits above it is set. -/
  | configHighBitsSet
deriving DecidableEq, Repr

/-- The instruction that bytes, first-arrived first, stand for in a format. -/
def decodeBytes (fmt : Format) (bytes : List Byte) : Except DecodeError Instr :=
  match fmt, bytes with
  | .port8, [v] => .ok (.byteIn v)
  | .portCfg, [c0, c1, c2, c3, c4] =>
    if c0.extractLsb' 5 3 = 0#3 then .ok (decodeConfig (c0.extractLsb' 0 5 ++ c1 ++ c2 ++ c3 ++ c4))
    else .error .configHighBitsSet
  | .frame .g1, [b0, b1, b2, b3] => .ok (.v1Frame (shortFrameWord b0 b1 b2 b3))
  | .frame .g2, [b0, b1, b2, b3, b4, b5] => .ok (.v2Frame (frameWord b0 b1 b2 b3 b4 b5))
  | .frame .g3, [b0, b1, b2, b3, b4, b5] => .ok (decodeV3 (frameWord b0 b1 b2 b3 b4 b5))
  | .frame .g4, [b0, b1, b2, b3, b4, b5] => .ok (.v4Frame (frameWord b0 b1 b2 b3 b4 b5))
  | f, bs => .error (.wrongLength f bs.length)

/-! ## Encoding -/

/-- The word of a Head row with `n` fingers (30_encoding.md R51, R54):
`ffuu01RL uuuuXXXX XXXXXXXX 00uu0010 uuuuYYYY YYYYYYYY`. -/
def headWord (n : BitVec 2) (f : HeadFields) : FrameWord :=
  n ++ f.u0 ++ 0b01#2 ++ f.buttons ++ f.u1 ++ f.x ++ 0b00#2 ++ f.u3 ++ 0b0010#4 ++ f.u4 ++ f.yraw

/-- The word of a Tail row with `n` fingers (30_encoding.md R51, R54):
`ffuu11RL uuuuXXXX XXXXXXXX 00uu110u uuuuYYYY YYYYYYYY`. -/
def tailWord (n : BitVec 2) (f : TailFields) : FrameWord :=
  n ++ f.u0 ++ 0b11#2 ++ f.buttons ++ f.u1 ++ f.x ++ 0b00#2 ++ f.u3 ++ 0b110#3 ++ f.u3low ++ f.u4 ++ f.yraw

/-- The Debounce word (30_encoding.md R52). -/
def debounceWord : FrameWord := 0xC4FFFF02FFFF#48

/-- The word of a CFG_LOAD (opcode_table.json, row CFG_LOAD). -/
def configWord (fw : Firmware) (ymax : BitVec 12) : ParityOverride → ConfigWord
  | .absent => fw ++ ymax ++ 0#1
  | .forceZero => fw ++ ymax ++ 1#1

/-- The six bytes of a frame word in arrival order. -/
def frameBytes (w : FrameWord) : List Byte :=
  [frameByte w 0, frameByte w 1, frameByte w 2, frameByte w 3, frameByte w 4, frameByte w 5]

/-- The four bytes of a generation-1 frame word in arrival order. -/
def shortFrameBytes (w : ShortFrameWord) : List Byte :=
  [shortFrameByte w 0, shortFrameByte w 1, shortFrameByte w 2, shortFrameByte w 3]

/-- The five bytes of a configuration word, its three top bits 0, high byte first. -/
def configBytes (c : ConfigWord) : List Byte :=
  [0#3 ++ c.extractLsb' 32 5, c.extractLsb' 24 8, c.extractLsb' 16 8, c.extractLsb' 8 8, c.extractLsb' 0 8]

/-- The format of an instruction's row (opcode_table.json, "format"). -/
def formatOf : Instr → Format
  | .byteIn _ => .port8
  | .cfgLoad _ _ _ => .portCfg
  | .v3Debounce => .frame .g3
  | .v3HeadF0 _ => .frame .g3
  | .v3HeadF1 _ => .frame .g3
  | .v3HeadF2 _ => .frame .g3
  | .v3HeadF3 _ => .frame .g3
  | .v3TailF0 _ => .frame .g3
  | .v3TailF1 _ => .frame .g3
  | .v3TailF2 _ => .frame .g3
  | .v3TailF3 _ => .frame .g3
  | .v3Unknown _ => .frame .g3
  | .v1Frame _ => .frame .g1
  | .v2Frame _ => .frame .g2
  | .v4Frame _ => .frame .g4

/-- The bytes of an instruction, first-arrived first (30_encoding.md R61, R62). -/
def encode : Instr → List Byte
  | .byteIn v => [v]
  | .cfgLoad fw ymax o => configBytes (configWord fw ymax o)
  | .v3Debounce => frameBytes debounceWord
  | .v3HeadF0 f => frameBytes (headWord 0 f)
  | .v3HeadF1 f => frameBytes (headWord 1 f)
  | .v3HeadF2 f => frameBytes (headWord 2 f)
  | .v3HeadF3 f => frameBytes (headWord 3 f)
  | .v3TailF0 f => frameBytes (tailWord 0 f)
  | .v3TailF1 f => frameBytes (tailWord 1 f)
  | .v3TailF2 f => frameBytes (tailWord 2 f)
  | .v3TailF3 f => frameBytes (tailWord 3 f)
  | .v3Unknown w => frameBytes w
  | .v1Frame w => shortFrameBytes w
  | .v2Frame w => frameBytes w
  | .v4Frame w => frameBytes w

/-! ## The opcode table's words -/

/-- The instruction of a word numbered as opcode_table.json numbers it: a frame is ONE word with B0 highest
(20_memory.md R43), so its bytes go to the decoder high byte first. The width names the format: 8 BYTE_IN, 37 (or 40, in
whole bytes) CFG_LOAD, 32 a generation-1 frame, 48 a generation-3 frame. Rows V2_FRAME and V4_FRAME have the width of
generation 3 and no bit that tells them apart; only CFG_GEN does (30_encoding.md R56), and this question carries none
(log 8). -/
def decodeTableWord (nbits w : Nat) : Option Instr :=
  if nbits = 8 ∧ w < 2 ^ 8 then (decodeBytes .port8 [BitVec.ofNat 8 w]).toOption
  else if (nbits = 37 ∨ nbits = 40) ∧ w < 2 ^ 37 then
    (decodeBytes .portCfg (configBytes (BitVec.ofNat 37 w))).toOption
  else if nbits = 32 ∧ w < 2 ^ 32 then (decodeBytes (.frame .g1) (shortFrameBytes (BitVec.ofNat 32 w))).toOption
  else if nbits = 48 ∧ w < 2 ^ 48 then (decodeBytes (.frame .g3) (frameBytes (BitVec.ofNat 48 w))).toOption
  else none

end Sys2Proof
end

