-- ==== Sys2Proof/Machine/State.lean ====
section
/-!
DEFINITION. The state of the block (10_state.md section 1), grouped as the spec groups it: profile, frame assembler,
decode state (two finger tracks and the gesture state), output registers; and two fields of the model's own, the host's
queue of transactions and the record of power transitions. Reset values are those of 70_reset_and_hazards.md R170; the
registers the spec leaves unspecified at reset are named in log 4.
-/

namespace Sys2Proof.Machine

/-- What the host can offer the block between two steps (log 2): the two port transactions of 30_encoding.md R50 as the
words on their ports, reset (60_exceptions.md R155, 70_reset_and_hazards.md R170), and a power transition (R159). -/
inductive Transaction where
  /-- One byte on the byte port. -/
  | port8 (v : Byte)
  /-- One packed configuration word on the configuration port. -/
  | portCfg (c : ConfigWord)
  /-- The reset of 70_reset_and_hazards.md R170. -/
  | reset
  /-- A power transition, the host's own act (60_exceptions.md R159; log 11). -/
  | powerTransition
deriving DecidableEq, Repr

/-- How far the block has come since the last power transition (60_exceptions.md R159, 93_implementation_defined.md
section 1: "stuck until reset and CFG_LOAD"; log 11). The model's own. DESIGN CHOICE. -/
inductive PowerStage where
  /-- No power transition, or a reset and a CFG_LOAD since it. -/
  | intact
  /-- A power transition and no reset since: the registers hold free values (log 19). -/
  | lost
  /-- A reset after a power transition, and no CFG_LOAD since. -/
  | awaitingLoad
deriving DecidableEq, Repr

/-- The model's own record of power transitions (log 11, log 19). DESIGN CHOICE. -/
structure Power where
  /-- The stage. -/
  stage       : PowerStage
  /-- How many power transitions have happened: the counter the free values are drawn by. -/
  transitions : Nat
deriving DecidableEq, Repr

/-- The whole state of the block, and the model's two fields for what stands outside it. -/
structure State where
  profile   : Profile
  asm       : Assembler
  slot0     : FingerTrack
  slot1     : FingerTrack
  gesture   : Gesture
  status    : Status
  event     : EventPort
  diag      : Diagnostics
  /-- The model's own: the host's transactions not yet accepted, oldest first (log 2). DESIGN CHOICE. -/
  inputs    : List Transaction
  /-- The model's own: the record of power transitions (60_exceptions.md R159; log 11, log 19). DESIGN CHOICE. -/
  power     : Power
deriving DecidableEq, Repr

/-- Why the machine stops. The block itself never stops (60_exceptions.md R150, R154). -/
inductive Fault where
  /-- Raised by `step` when a port transaction comes after a power transition and before a reset: "The block's state is not
  specified to survive a power transition" (60_exceptions.md R159). Safe: the model stops where a block that keeps its
  state would go on (log 11). -/
  | stateLostByPowerTransition
  /-- Raised by `step` when a byte comes after a power transition and a reset and before a CFG_LOAD: the host applies "a
  new CFG_LOAD before the next byte after any power transition" (60_exceptions.md R159). Safe: the model stops where the
  block would discard the byte (log 11). -/
  | noLoadSincePowerTransition
deriving DecidableEq, Repr

/-- Why the model gives no meaning. -/
inductive Refusal where
  /-- An arm of `exec` without a meaning. No arm answers it. Safe. -/
  | notModelled (mnemonic : String)
deriving DecidableEq, Repr

/-- A finger track right after reset (70_reset_and_hazards.md R170): nothing valid. The coordinates are zero: DESIGN
CHOICE, log 4. -/
def FingerTrack.reset : FingerTrack := ⟨false, 0, 0, false, 0, 0, false⟩

/-- The machine right after reset (70_reset_and_hazards.md R170). PROFILE_VALID, CNT, the validity and range flags,
LAST_COUNT, TAP_TO_CLICK and the outputs have the spec's values; the profile registers, FB and the coordinates are
unspecified there and have the values of log 4 (DESIGN CHOICE); nothing is offered yet (log 2). -/
def State.reset : State where
  profile := ⟨false, 0, .g1, .four, 0, false, false, false⟩
  asm := ⟨Vector.replicate 6 0, 0⟩
  slot0 := FingerTrack.reset
  slot1 := FingerTrack.reset
  gesture := ⟨0, true, false, 0, 0⟩
  status := ⟨.none, false⟩
  event := ⟨false, 0, 0, 0⟩
  diag := ⟨0, 0⟩
  inputs := []
  power := ⟨.intact, 0⟩

end Sys2Proof.Machine
end

