-- ==== Sys2Proof/Machine/Flags.lean ====
section
/-!
DEFINITION. The status values the block computes: the codes of VERDICT and CFG_GEN, the writes of VERDICT, MALFORMED and
EV_VALID, and the parity table.
-/

namespace Sys2Proof.Machine

/-- The code of VERDICT (10_state.md R22, 41_classifier.md R92). -/
def Verdict.code : Verdict → BitVec 3
  | .none => 0
  | .debounce => 1
  | .head => 2
  | .tail => 3
  | .unknown => 4
  | .parityPass => 5
  | .parityFail => 6
  | .unsupported => 7

/-- The code of CFG_GEN (10_state.md R11). -/
def generationCode : Generation → BitVec 3
  | .g1 => 1
  | .g2 => 2
  | .g3 => 3
  | .g4 => 4

/-- The code of CFG_PKTSIZE (10_state.md R12). -/
def FrameLength.code : FrameLength → BitVec 3
  | .four => 4
  | .six => 6

/-- The start of ProcessFrame and its verdict: MALFORMED <- 0 (40_frame_assembly.md R73), VERDICT <- v
(41_classifier.md R92). -/
def beginFrame (v : Verdict) (s : State) : State := { s with status := ⟨v, false⟩ }

/-- MALFORMED <- 1 (42_position_decoder.md R112). -/
def markMalformed (s : State) : State := { s with status := { s.status with malformed := true } }

/-- EV_VALID <- 0: the strobe lasts one transaction (40_frame_assembly.md R70). -/
def clearStrobe (s : State) : State := { s with event := { s.event with valid := false } }

/-- The recurrence of PT, `PT[0] = 1; PT[i] = PT[i & (i-1)] ^ 1`, unrolled: `i & (i-1)` clears the lowest set bit, so
eight steps reach 0 from any byte (10_state.md R18). -/
def parityFrom : Nat → Byte → Bool
  | 0, _ => true
  | n + 1, i => if i = 0 then true else !(parityFrom n (i &&& (i - 1)))

/-- PT (10_state.md R18): 1 exactly when the byte has an even number of one bits. -/
def parityTable (i : Byte) : Bool := parityFrom 8 i

end Sys2Proof.Machine
end

