-- ==== Sys2Proof/Machine/Operands.lean ====
section
/-!
DEFINITION. The operands of the position decoder and of the tap machine: decoded samples, and points read through their
validity flags (00_scope.md R5), so that an invalid point has no value to read.
-/

namespace Sys2Proof.Machine

/-- A decoded sample or a point held by the block: x unsigned, y signed (10_state.md R20). -/
structure Point where
  x : BitVec 12
  y : BitVec 13
deriving DecidableEq, Repr

/-- The x of a point as an integer, 0 to 4095 (42_position_decoder.md R102). -/
def Point.xInt (p : Point) : Int := p.x.toNat

/-- The y of a point as an integer, -4095 to 4095 for a decoded one (42_position_decoder.md R102). -/
def Point.yInt (p : Point) : Int := p.y.toInt

/-- The decoded sample of a frame's raw fields: x as it is, y subtracted from CFG_YMAX without clamping
(42_position_decoder.md R100, R102). -/
def decodeSample (ymax x yraw : BitVec 12) : Point :=
  ⟨x, BitVec.ofInt 13 ((ymax.toNat : Int) - (yraw.toNat : Int))⟩

/-- A sample is valid when x and the inverted y are both non-zero (42_position_decoder.md R101). -/
def Point.isValid (p : Point) : Bool := p.x != 0 && p.y != 0

/-- The start point of a slot, where it has one (43_tap_gesture.md R130, 00_scope.md R5). -/
def FingerTrack.start? (t : FingerTrack) : Option Point :=
  if t.startValid then some ⟨t.startX, t.startY⟩ else none

/-- The last-known position of a slot, where it has one (10_state.md R20, 00_scope.md R5). -/
def FingerTrack.pos? (t : FingerTrack) : Option Point :=
  if t.posValid then some ⟨t.posX, t.posY⟩ else none

/-- The last reported point, where there is one (10_state.md R25, 00_scope.md R5). -/
def Gesture.last? (g : Gesture) : Option Point :=
  if g.lastValid then some ⟨g.lastX, g.lastY⟩ else none

/-- The finger track of a slot. -/
def State.slot (s : State) : SlotId → FingerTrack
  | .s0 => s.slot0
  | .s1 => s.slot1

/-- TAP_THRESHOLD (00_scope.md section 3, 43_tap_gesture.md R132). -/
def tapThreshold : Nat := 32

/-- The displacement exceeds the threshold in either axis, strictly (43_tap_gesture.md R132). -/
def exceedsTapRadius (start p : Point) : Bool :=
  decide (tapThreshold < (p.xInt - start.xInt).natAbs) || decide (tapThreshold < (p.yInt - start.yInt).natAbs)

end Sys2Proof.Machine
end

