-- ==== Sys2Proof/Machine/Ops.lean ====
section
/-!
DEFINITION. The named operations over the registers that the meanings share. The block has no memory (20_memory.md R40)
and takes no exception (60_exceptions.md R150, R154), so there is no operation for either.
-/

namespace Sys2Proof.Machine

/-! ## Registers -/

/-- Write the finger track of a slot. -/
def State.setSlot (s : State) (k : SlotId) (t : FingerTrack) : State :=
  match k with
  | .s0 => { s with slot0 := t }
  | .s1 => { s with slot1 := t }

/-- Write the gesture state. -/
def State.setGesture (s : State) (g : Gesture) : State := { s with gesture := g }

/-- Write the profile. -/
def State.setProfile (s : State) (p : Profile) : State := { s with profile := p }

/-- Write the frame assembler. -/
def State.setAssembler (s : State) (a : Assembler) : State := { s with asm := a }

/-- Write what the host still offers. -/
def State.setInputs (s : State) (l : List Transaction) : State := { s with inputs := l }

/-- LAST_COUNT <- n (42_position_decoder.md R110). -/
def setLastCount (n : BitVec 2) (s : State) : State := s.setGesture { s.gesture with lastCount := n }

/-- LAST_X, LAST_Y <- p; LAST_VALID <- 1 (42_position_decoder.md R106). -/
def setLast (p : Point) (s : State) : State :=
  s.setGesture { s.gesture with lastValid := true, lastX := p.x, lastY := p.y }

/-- POS_X[k], POS_Y[k] <- p; POS_VALID[k] <- 1 (42_position_decoder.md R106 to R108). -/
def setPos (k : SlotId) (p : Point) (s : State) : State :=
  s.setSlot k { s.slot k with posValid := true, posX := p.x, posY := p.y }

/-- DIAG_PRESSURE, DIAG_WIDTH <- PW_LAYOUT(B) (42_position_decoder.md R103). -/
def writeDiagnostics (w : FrameWord) (s : State) : State :=
  { s with diag := ⟨(Config.pressureWidth w).pressure, (Config.pressureWidth w).width⟩ }

/-! ## The event port -/

/-- emit(dx, dy, buttons) (42_position_decoder.md R111). -/
def emit (dx dy : Int) (buttons : BitVec 2) (s : State) : State :=
  { s with event := ⟨true, BitVec.ofInt 16 dx, BitVec.ofInt 16 dy, buttons⟩ }

/-- The outbound event as the sink takes it, with the timestamp the host attaches (10_state.md R26,
42_position_decoder.md R111). -/
structure OutboundEvent where
  dx        : Int
  dy        : Int
  buttons   : BitVec 2
  timestamp : Nat
deriving DecidableEq, Repr

/-- The event on the port after a transaction, if that transaction emitted one. The timestamp is the host's (`TIMESTAMP`,
log 7), so it is an argument. -/
def State.outboundEvent (s : State) (timestamp : Nat) : Option OutboundEvent :=
  if s.event.valid then some ⟨s.event.dx.toInt, s.event.dy.toInt, s.event.buttons, timestamp⟩ else none

/-! ## Reset (70_reset_and_hazards.md R170) -/

/-- A finger track with its flags cleared; the coordinates stay (70_reset_and_hazards.md R170, 43_tap_gesture.md R135). -/
def FingerTrack.idle (t : FingerTrack) : FingerTrack :=
  { t with posValid := false, startValid := false, tapInRange := false }

/-- DecodeReset: CNT, the decode state's flags and the outputs (70_reset_and_hazards.md R170). FB and the coordinates
keep what they hold. -/
def decodeReset (s : State) : State :=
  { s with
    asm := { s.asm with cnt := 0 }
    slot0 := s.slot0.idle
    slot1 := s.slot1.idle
    gesture := { s.gesture with lastCount := 0, tapToClick := true, lastValid := false }
    status := ⟨.none, false⟩
    event := ⟨false, 0, 0, 0⟩
    diag := ⟨0, 0⟩ }

/-- What a reset does to the power stage: after a power transition the CFG_LOAD is still to come (60_exceptions.md R159;
log 11). -/
def PowerStage.afterReset : PowerStage → PowerStage
  | .intact => .intact
  | .lost => .awaitingLoad
  | .awaitingLoad => .awaitingLoad

/-- Reset: PROFILE_VALID <- 0, then DecodeReset (70_reset_and_hazards.md R170). The registers R170 calls unspecified keep
what they hold (log 4). -/
def fullReset (s : State) : State :=
  decodeReset
    { s with
      profile := { s.profile with valid := false }
      power := { s.power with stage := s.power.stage.afterReset } }

/-! ## Power transitions (60_exceptions.md R159) -/

/-- After a power transition every register of the block holds a free value, drawn afresh: its state is not specified to
survive (60_exceptions.md R159; log 11, log 19). -/
def losePower (s : State) : State :=
  { s with
    profile := (Config.afterPowerTransition s.power.transitions).profile
    asm := (Config.afterPowerTransition s.power.transitions).asm
    slot0 := (Config.afterPowerTransition s.power.transitions).slot0
    slot1 := (Config.afterPowerTransition s.power.transitions).slot1
    gesture := (Config.afterPowerTransition s.power.transitions).gesture
    status := (Config.afterPowerTransition s.power.transitions).status
    event := (Config.afterPowerTransition s.power.transitions).event
    diag := (Config.afterPowerTransition s.power.transitions).diag
    power := ⟨.lost, s.power.transitions + 1⟩ }

end Sys2Proof.Machine
end

