-- ==== Sys2Proof/Machine/Classifier.lean ====
section
/-!
DEFINITION. The frame rows that end at the classifier: dropped generation-3 frames (41_classifier.md R81, R84), the
generation-1 parity check (R86 to R90), refused generations 2 and 4 (R91).
-/

namespace Sys2Proof.Machine

/-- Firmware below this has the older layout of the parity fields (41_classifier.md R87). -/
def fwParityLayoutBound : Firmware := 0x020000#24

/-- V1_PARITY_POS(fw): the layout below 0x020000 differs from the layout of all other firmware; the positions are free
(30_encoding.md R55, 41_classifier.md R87; log 5). -/
def parityPos (fw : Firmware) : ParityPos :=
  if fw.toNat < fwParityLayoutBound.toNat then Config.parityLayouts.older else Config.parityLayouts.newer

/-- The three parity fields of byte 0 agree with PT of bytes 1, 2 and 3 (41_classifier.md R86). -/
def parityAgrees (q : ParityPos) (w : ShortFrameWord) : Bool :=
  (shortFrameByte w 0).getLsbD q.q1.val == parityTable (shortFrameByte w 1) &&
  (shortFrameByte w 0).getLsbD q.q2.val == parityTable (shortFrameByte w 2) &&
  (shortFrameByte w 0).getLsbD q.q3.val == parityTable (shortFrameByte w 3)

/-- CheckV1 (41_classifier.md R86, R90): with the check disabled every frame passes. -/
def checkV1 (p : Profile) (w : ShortFrameWord) : Verdict :=
  if p.parityEn then (if parityAgrees (parityPos p.fw) w then .parityPass else .parityFail) else .parityPass

/-- V3_DEBOUNCE: dropped, VERDICT <- 1 (41_classifier.md R81). -/
def execV3Debounce (s : State) : Host.Outcome State Fault Refusal := .next (beginFrame .debounce s)

/-- V3_UNKNOWN: dropped, VERDICT <- 4 (41_classifier.md R84). The word has no effect. -/
def execV3Unknown (_w : FrameWord) (s : State) : Host.Outcome State Fault Refusal := .next (beginFrame .unknown s)

/-- V1_FRAME: VERDICT <- CheckV1(B), no other effect (41_classifier.md R86, R88, R89). -/
def execV1Frame (w : ShortFrameWord) (s : State) : Host.Outcome State Fault Refusal :=
  .next (beginFrame (checkV1 s.profile w) s)

/-- V2_FRAME: VERDICT <- 7, no other effect (41_classifier.md R91). -/
def execV2Frame (_w : FrameWord) (s : State) : Host.Outcome State Fault Refusal := .next (beginFrame .unsupported s)

/-- V4_FRAME: VERDICT <- 7, no other effect (41_classifier.md R91). -/
def execV4Frame (_w : FrameWord) (s : State) : Host.Outcome State Fault Refusal := .next (beginFrame .unsupported s)

end Sys2Proof.Machine
end

