-- ==== Sys2Proof/Machine/Tap.lean ====
section
/-!
DEFINITION. The tap gesture state machine (43_tap_gesture.md): first-contact latch, threshold comparator, and the two
operations of a full release.
-/

namespace Sys2Proof.Machine

/-- The latch of a slot's start point at first contact (43_tap_gesture.md R131). -/
def latchStart (k : SlotId) (p : Point) (s : State) : State :=
  s.setSlot k { s.slot k with startValid := true, startX := p.x, startY := p.y, tapInRange := true }

/-- The disqualification of a slot and of its contact sequence (43_tap_gesture.md R132). -/
def disqualify (k : SlotId) (s : State) : State :=
  (s.setSlot k { s.slot k with tapInRange := false }).setGesture { s.gesture with tapToClick := false }

/-- TapCompare against the start point (43_tap_gesture.md R132). -/
def tapCompare (k : SlotId) (start p : Point) (s : State) : State :=
  if exceedsTapRadius start p then disqualify k s else s

/-- TapTrack: latch at first contact, compare after it (43_tap_gesture.md R131, R132). -/
def tapTrack (k : SlotId) (p : Point) (s : State) : State :=
  match (s.slot k).start? with
  | none => latchStart k p s
  | some start => tapCompare k start p s

/-- A slot does not stand in the way of a click: it has no start point, or it is in range (43_tap_gesture.md R134). -/
def FingerTrack.allowsTap (t : FingerTrack) : Bool := !t.startValid || t.tapInRange

/-- The condition of ReleaseTapBit, with the finger count before the release in LAST_COUNT (43_tap_gesture.md R134). -/
def tapEligible (s : State) : Bool :=
  (s.gesture.lastCount == 1 || s.gesture.lastCount == 2) && s.gesture.tapToClick &&
    s.slot0.allowsTap && s.slot1.allowsTap

/-- The bit ReleaseTapBit returns: left for one finger, right for two (43_tap_gesture.md R134). -/
def releaseTapBit (s : State) : BitVec 2 :=
  if tapEligible s then (if s.gesture.lastCount = 1 then 0b01 else 0b10) else 0b00

/-- The write of ReleaseTapBit: an eligible release clears TAP_TO_CLICK (43_tap_gesture.md R134). -/
def consumeTap (s : State) : State :=
  if tapEligible s then s.setGesture { s.gesture with tapToClick := false } else s

/-- ReleaseReset: every slot Idle, LAST_VALID <- 0, TAP_TO_CLICK <- 1 (43_tap_gesture.md R135). -/
def releaseReset (s : State) : State :=
  ((s.setSlot .s0 s.slot0.idle).setSlot .s1 s.slot1.idle).setGesture
    { s.gesture with lastValid := false, tapToClick := true }

end Sys2Proof.Machine
end

