-- ==== Sys2Proof/Machine/Decoder.lean ====
section
/-!
DEFINITION. The absolute position decoder (42_position_decoder.md): the operations of R105 to R109 once, and the eight
Head and Tail rows over them (R104).
-/

namespace Sys2Proof.Machine

/-! ## The operations -/

/-- The entry of a Head frame with `n` fingers: verdict, MALFORMED <- 0, diagnostics (40_frame_assembly.md R73,
42_position_decoder.md R103, R104). -/
def enterHead (n : BitVec 2) (f : HeadFields) (s : State) : State :=
  writeDiagnostics (headWord n f) (beginFrame .head s)

/-- The entry of a Tail frame with `n` fingers (40_frame_assembly.md R73, 42_position_decoder.md R103, R104). -/
def enterTail (n : BitVec 2) (f : TailFields) (s : State) : State :=
  writeDiagnostics (tailWord n f) (beginFrame .tail s)

/-- DecodeF0 (42_position_decoder.md R105): release event with the tap bit, ReleaseReset, LAST_COUNT <- 0. -/
def decodeF0 (buttons : BitVec 2) (s : State) : State :=
  setLastCount 0 (releaseReset (emit 0 0 (buttons ||| releaseTapBit s) (consumeTap s)))

/-- The motion event of a valid one-finger sample, where a last point is valid: current minus previous
(42_position_decoder.md R106). -/
def emitMotion (p : Point) (buttons : BitVec 2) (s : State) : State :=
  match s.gesture.last? with
  | none => s
  | some last => emit (p.xInt - last.xInt) (p.yInt - last.yInt) buttons s

/-- DecodeF1 (42_position_decoder.md R106): motion, last point, slot 0, LAST_COUNT <- 1; a malformed sample writes only
MALFORMED and LAST_COUNT (R101, R112). -/
def decodeF1 (x yraw : BitVec 12) (buttons : BitVec 2) (s : State) : State :=
  let p := decodeSample s.profile.ymax x yraw
  setLastCount 1
    (if p.isValid then tapTrack .s0 p (setPos .s0 p (setLast p (emitMotion p buttons s))) else markMalformed s)

/-- DecodeF2Head and DecodeF2Tail (42_position_decoder.md R107, R108): the position and the tap tracking of one slot,
no event, LAST_COUNT <- 2. -/
def decodeF2 (k : SlotId) (x yraw : BitVec 12) (s : State) : State :=
  let p := decodeSample s.profile.ymax x yraw
  setLastCount 2 (if p.isValid then tapTrack k p (setPos k p s) else markMalformed s)

/-! ## The rows -/

/-- V3_HEAD_F0 (42_position_decoder.md R105). -/
def execV3HeadF0 (f : HeadFields) (s : State) : Host.Outcome State Fault Refusal :=
  .next (decodeF0 f.buttons (enterHead 0 f s))

/-- V3_HEAD_F1 (42_position_decoder.md R106). -/
def execV3HeadF1 (f : HeadFields) (s : State) : Host.Outcome State Fault Refusal :=
  .next (decodeF1 f.x f.yraw f.buttons (enterHead 1 f s))

/-- V3_HEAD_F2 (42_position_decoder.md R107): slot 0. -/
def execV3HeadF2 (f : HeadFields) (s : State) : Host.Outcome State Fault Refusal :=
  .next (decodeF2 .s0 f.x f.yraw (enterHead 2 f s))

/-- V3_HEAD_F3 (42_position_decoder.md R109): verdict and diagnostics only. -/
def execV3HeadF3 (f : HeadFields) (s : State) : Host.Outcome State Fault Refusal :=
  .next (enterHead 3 f s)

/-- V3_TAIL_F0 (42_position_decoder.md R105). -/
def execV3TailF0 (f : TailFields) (s : State) : Host.Outcome State Fault Refusal :=
  .next (decodeF0 f.buttons (enterTail 0 f s))

/-- V3_TAIL_F1 (42_position_decoder.md R106): a Tail frame with one finger decodes as one finger (R104). -/
def execV3TailF1 (f : TailFields) (s : State) : Host.Outcome State Fault Refusal :=
  .next (decodeF1 f.x f.yraw f.buttons (enterTail 1 f s))

/-- V3_TAIL_F2 (42_position_decoder.md R108): slot 1. -/
def execV3TailF2 (f : TailFields) (s : State) : Host.Outcome State Fault Refusal :=
  .next (decodeF2 .s1 f.x f.yraw (enterTail 2 f s))

/-- V3_TAIL_F3 (42_position_decoder.md R109): verdict and diagnostics only. -/
def execV3TailF3 (f : TailFields) (s : State) : Host.Outcome State Fault Refusal :=
  .next (enterTail 3 f s)

end Sys2Proof.Machine
end

