-- ==== Sys2Proof/Machine/Profile.lean ====
section
/-!
DEFINITION. The profile: what is derived from the firmware version (10_state.md R11, R12, R15), and CFG_LOAD (R16).
-/

namespace Sys2Proof.Machine

/-- Firmware below this is generation 1 (10_state.md R11). -/
def fwGeneration1Bound : Firmware := 0x020030#24

/-- The one later firmware that is generation 1 too (10_state.md R11). -/
def fwGeneration1Forced : Firmware := 0x020600#24

/-- The first firmware the jumpy flag names (10_state.md R15). -/
def fwJumpyFirst : Firmware := 0x020022#24

/-- The second firmware the jumpy flag names (10_state.md R15). -/
def fwJumpySecond : Firmware := 0x020600#24

/-- From this firmware on, pressure reporting is supported (10_state.md R15). -/
def fwPressureBound : Firmware := 0x020800#24

/-- GenOf (10_state.md R11); `none` is DetectionFailure. -/
def genOf (fw : Firmware) : Option Generation :=
  let ind := fw.extractLsb' 16 4
  if fw.toNat < fwGeneration1Bound.toNat ∨ fw = fwGeneration1Forced then some .g1
  else if ind = 2 ∨ ind = 4 then some .g2
  else if ind = 5 then some .g3
  else if ind = 6 then some .g4
  else none

/-- CFG_PKTSIZE of a generation (10_state.md R12). -/
def frameLengthOf : Generation → FrameLength
  | .g1 => .four
  | .g2 => .six
  | .g3 => .six
  | .g4 => .six

/-- CFG_JUMPY (10_state.md R15). -/
def jumpyOf (fw : Firmware) : Bool := fw == fwJumpyFirst || fw == fwJumpySecond

/-- CFG_PRESSURE of a firmware of generation `g` (10_state.md R15). -/
def pressureOf (g : Generation) (fw : Firmware) : Bool :=
  g != .g1 && decide (fwPressureBound.toNat ≤ fw.toNat)

/-- CFG_PARITY_EN (10_state.md R14). -/
def parityEnOf : ParityOverride → Bool
  | .absent => true
  | .forceZero => false

/-- The profile a successful load writes (10_state.md R16). -/
def loadedProfile (g : Generation) (fw : Firmware) (ymax : BitVec 12) (o : ParityOverride) : Profile where
  valid := true
  fw := fw
  gen := g
  pktsize := frameLengthOf g
  ymax := ymax
  parityEn := parityEnOf o
  jumpy := jumpyOf fw
  pressure := pressureOf g fw

/-- CFG_LOAD (10_state.md R16). On DetectionFailure PROFILE_VALID <- 0 and the other profile registers stay; the returned
value shows nowhere else (log 15). Both ways DecodeReset is applied. -/
def execCfgLoad (fw : Firmware) (ymax : BitVec 12) (o : ParityOverride) (s : State) :
    Host.Outcome State Fault Refusal :=
  .next (decodeReset (s.setProfile (match genOf fw with
    | none => { s.profile with valid := false }
    | some g => loadedProfile g fw ymax o)))

end Sys2Proof.Machine
end

