-- ==== Sys2Proof/Machine/Assembly.lean ====
section
/-!
DEFINITION. Frame assembly: ProcessFrame (40_frame_assembly.md R73) and BYTE_IN (R70).
-/

namespace Sys2Proof.Machine

/-- ProcessFrame (40_frame_assembly.md R73): run the row a completed frame decodes to. The two port rows are no frame
classes and no frame decodes to one (30_encoding.md R50, R54), so their arms are never taken; they change nothing. -/
def processFrame (i : Instr) (s : State) : Host.Outcome State Fault Refusal :=
  match i with
  | .byteIn _ => .next s
  | .cfgLoad _ _ _ => .next s
  | .v3Debounce => execV3Debounce s
  | .v3HeadF0 f => execV3HeadF0 f s
  | .v3HeadF1 f => execV3HeadF1 f s
  | .v3HeadF2 f => execV3HeadF2 f s
  | .v3HeadF3 f => execV3HeadF3 f s
  | .v3TailF0 f => execV3TailF0 f s
  | .v3TailF1 f => execV3TailF1 f s
  | .v3TailF2 f => execV3TailF2 f s
  | .v3TailF3 f => execV3TailF3 f s
  | .v3Unknown w => execV3Unknown w s
  | .v1Frame w => execV1Frame w s
  | .v2Frame w => execV2Frame w s
  | .v4Frame w => execV4Frame w s

/-- The byte just stored is the frame's last: CNT + 1 = CFG_PKTSIZE (40_frame_assembly.md R70). -/
def completesFrame (s : State) : Bool := s.asm.cnt.val + 1 == s.profile.pktsize.toNat

/-- FB[CNT] <- v, and CNT <- 0 on the frame's last byte, CNT + 1 before it (40_frame_assembly.md R70). In a state where
CNT is beyond CFG_PKTSIZE, which no run reaches, CNT + 1 is taken modulo 6 (log 12). -/
def storeByte (v : Byte) (s : State) : State :=
  s.setAssembler ⟨s.asm.fb.set s.asm.cnt.val v, if completesFrame s then 0 else s.asm.cnt + 1⟩

/-- BYTE_IN(v) (40_frame_assembly.md R70): the strobe falls; without a profile the byte is discarded (R75); else it is
stored, and the frame it completes is processed in the same transaction. -/
def execByteIn (v : Byte) (s : State) : Host.Outcome State Fault Refusal :=
  if s.profile.valid then
    if completesFrame s then
      processFrame (decodeFrame s.profile.gen (storeByte v (clearStrobe s)).asm.fb) (storeByte v (clearStrobe s))
    else .next (storeByte v (clearStrobe s))
  else .next (clearStrobe s)

end Sys2Proof.Machine
end

