-- ==== Sys2Proof/Machine/Dispatch.lean ====
section
/-! DEFINITION. One arm per row of spec/opcode_table.json, each one call of its meaning. -/

namespace Sys2Proof.Machine

def exec (i : Instr) (s : State) : Host.Outcome State Fault Refusal :=
  match i with
  -- the port transactions
  | .byteIn v => Sys2Proof.Machine.execByteIn v s
  | .cfgLoad fw ymax override => Sys2Proof.Machine.execCfgLoad fw ymax override s
  -- the frame classes of generation 3
  | .v3Debounce => Sys2Proof.Machine.execV3Debounce s
  | .v3HeadF0 f => Sys2Proof.Machine.execV3HeadF0 f s
  | .v3HeadF1 f => Sys2Proof.Machine.execV3HeadF1 f s
  | .v3HeadF2 f => Sys2Proof.Machine.execV3HeadF2 f s
  | .v3HeadF3 f => Sys2Proof.Machine.execV3HeadF3 f s
  | .v3TailF0 f => Sys2Proof.Machine.execV3TailF0 f s
  | .v3TailF1 f => Sys2Proof.Machine.execV3TailF1 f s
  | .v3TailF2 f => Sys2Proof.Machine.execV3TailF2 f s
  | .v3TailF3 f => Sys2Proof.Machine.execV3TailF3 f s
  | .v3Unknown w => Sys2Proof.Machine.execV3Unknown w s
  -- the frame classes of the other generations
  | .v1Frame w => Sys2Proof.Machine.execV1Frame w s
  | .v2Frame w => Sys2Proof.Machine.execV2Frame w s
  | .v4Frame w => Sys2Proof.Machine.execV4Frame w s

end Sys2Proof.Machine
end

