-- ==== Sys2Proof/Machine/Fetch.lean ====
section
/-!
DEFINITION. Where the next instruction comes from. The block fetches nothing (20_memory.md R49): the host offers a
transaction, and the words on its port decode to the instruction (30_encoding.md R50). Placing an instruction for the
next step is the converse (log 3).
-/

namespace Sys2Proof.Machine

/-- The instruction of a port transaction; reset and a power transition are no rows of the opcode table. -/
def decodeTransaction : Transaction → Option Instr
  | .port8 v => some (.byteIn v)
  | .portCfg c => some (decodeConfig c)
  | .reset => none
  | .powerTransition => none

/-- What the host does to the block without an instruction: reset (70_reset_and_hazards.md R170), or a power transition,
after which the block's state is lost (60_exceptions.md R159; log 11, log 19). A port transaction is no such act. -/
def hostAct (t : Transaction) (s : State) : State :=
  match t with
  | .port8 _ => s
  | .portCfg _ => s
  | .reset => fullReset s
  | .powerTransition => losePower s

/-- Why a port transaction stops the machine, if it does: after a power transition nothing is accepted until a reset, and
after the reset no byte until a CFG_LOAD (60_exceptions.md R159, 93_implementation_defined.md section 1; log 11). -/
def portFault (p : PowerStage) (t : Transaction) : Option Fault :=
  match p, t with
  | .intact, _ => none
  | .lost, _ => some .stateLostByPowerTransition
  | .awaitingLoad, .port8 _ => some .noLoadSincePowerTransition
  | .awaitingLoad, .portCfg _ => none
  | .awaitingLoad, .reset => none
  | .awaitingLoad, .powerTransition => none

/-- The state in which an accepted port transaction runs: it is offered no longer, and an accepted CFG_LOAD ends the time
after a power transition (log 11). -/
def State.accept (s : State) (rest : List Transaction) : State :=
  { s with inputs := rest, power := { s.power with stage := .intact } }

/-- Offer one more transaction ahead of all others, to a block that has not lost its state. -/
def offerFirst (t : Transaction) (s : State) : State :=
  { s with inputs := t :: s.inputs, power := { s.power with stage := .intact } }

/-- A generation-1 profile in force and the first three bytes of a frame received. -/
def placeShortFrame (w : ShortFrameWord) (s : State) : State :=
  { s with
    profile := { s.profile with valid := true, gen := .g1, pktsize := .four }
    asm := ⟨((s.asm.fb.set 0 (shortFrameByte w 0)).set 1 (shortFrameByte w 1)).set 2 (shortFrameByte w 2), 3⟩ }

/-- A generation-3 profile in force and the first five bytes of a frame received. -/
def placeFrame (w : FrameWord) (s : State) : State :=
  { s with
    profile := { s.profile with valid := true, gen := .g3, pktsize := .six }
    asm := ⟨((((s.asm.fb.set 0 (frameByte w 0)).set 1 (frameByte w 1)).set 2 (frameByte w 2)).set 3
      (frameByte w 3)).set 4 (frameByte w 4), 5⟩ }

/-- Everything it takes for the very next step to run the instruction `decodeTableWord nbits w` (log 3). A port
transaction is offered. A frame row runs inside the BYTE_IN that completes its frame (40_frame_assembly.md R70), so the
frame's other bytes are put into FB under a profile of its generation, and its last byte is offered. -/
def placeWord (s : State) (nbits w : Nat) : State :=
  if nbits = 8 then offerFirst (.port8 (BitVec.ofNat 8 w)) s
  else if nbits = 37 ∨ nbits = 40 then offerFirst (.portCfg (BitVec.ofNat 37 w)) s
  else if nbits = 32 then
    offerFirst (.port8 (shortFrameByte (BitVec.ofNat 32 w) 3)) (placeShortFrame (BitVec.ofNat 32 w) s)
  else if nbits = 48 then offerFirst (.port8 (frameByte (BitVec.ofNat 48 w) 5)) (placeFrame (BitVec.ofNat 48 w) s)
  else s

end Sys2Proof.Machine
end

