-- ==== Sys2Proof/Machine/Step.lean ====
section
/-!
DEFINITION. One step: the oldest transaction the host offers, whole (20_memory.md R46; 00_scope.md R3).
-/

namespace Sys2Proof.Machine

/-- One step of the machine. With nothing offered the block waits and nothing changes (log 2). A port transaction runs
the instruction its word decodes to; after a power transition none is accepted until a reset, and no byte until a CFG_LOAD
after that reset (60_exceptions.md R159; log 11). Reset and a power transition are taken at any time. -/
def step (s : State) : Host.Outcome State Fault Refusal :=
  match s.inputs with
  | [] => .next s
  | t :: rest =>
    match decodeTransaction t with
    | some i =>
      match portFault s.power.stage t with
      | some r => .fault r
      | none => exec i (s.accept rest)
    | none => .next (hostAct t (s.setInputs rest))

/-- `s` with everything set so that the very next step runs the instruction of the opcode table's word (log 3). -/
def State.withFetchWord (s : State) (nbits w : Nat) : State := placeWord s nbits w

end Sys2Proof.Machine
end

