-- ==== Sys2Proof/Safety.lean ====
section
/-!
DEFINITION. What a good state of the block is, in terms claims use: the invariant that reset has and every step keeps,
what a register's unspecified value may not influence, and sequences of instructions.
-/

namespace Sys2Proof.Machine

/-! ## The invariant -/

/-- A loaded profile is the one its firmware version derives (10_state.md R11, R12, R15, R16). -/
abbrev Profile.consistent (p : Profile) : Prop :=
  p.valid = true → genOf p.fw = some p.gen ∧ p.pktsize = frameLengthOf p.gen ∧ p.jumpy = jumpyOf p.fw ∧
    p.pressure = pressureOf p.gen p.fw

/-- `0 <= CNT < CFG_PKTSIZE` between transactions (10_state.md R19), and CNT = 0 without a profile (R170, R75). -/
abbrev State.framePositionInside (s : State) : Prop :=
  if s.profile.valid then s.asm.cnt.val < s.profile.pktsize.toNat else s.asm.cnt = 0

/-- A point the decoder can have produced under a Y maximum: both coordinates non-zero (42_position_decoder.md R101), y
in `[CFG_YMAX-4095, CFG_YMAX]` (R102). -/
abbrev Point.decodedUnder (ymax : BitVec 12) (p : Point) : Prop :=
  p.x ≠ 0 ∧ p.y ≠ 0 ∧ (ymax.toNat : Int) - 4095 ≤ p.yInt ∧ p.yInt ≤ (ymax.toNat : Int)

/-- The flags of a slot: START_VALID = 0 with TAP_IN_RANGE = 1 is never reached (43_tap_gesture.md R130), and a slot has a
position exactly when it has a start point (R131, R135; 42_position_decoder.md R106 to R108). -/
abbrev FingerTrack.flagsLegal (t : FingerTrack) : Prop :=
  (t.startValid = false → t.tapInRange = false) ∧ t.posValid = t.startValid

/-- The valid points of a slot are decoded points. -/
abbrev FingerTrack.pointsDecoded (ymax : BitVec 12) (t : FingerTrack) : Prop :=
  (t.posValid = true → Point.decodedUnder ymax ⟨t.posX, t.posY⟩) ∧
  (t.startValid = true → Point.decodedUnder ymax ⟨t.startX, t.startY⟩)

/-- TAP_TO_CLICK is 1 exactly when no latched slot is out of range (43_tap_gesture.md R132, R134, R135). -/
abbrev State.tapFlagAgrees (s : State) : Prop :=
  s.gesture.tapToClick = (s.slot0.allowsTap && s.slot1.allowsTap)

/-- LAST_COUNT is 0, 1 or 2 (10_state.md R23), and with no finger down nothing is valid (43_tap_gesture.md R135). -/
abbrev State.countLegal (s : State) : Prop :=
  s.gesture.lastCount ≠ 3 ∧
  (s.gesture.lastCount = 0 →
    s.slot0.startValid = false ∧ s.slot1.startValid = false ∧ s.gesture.lastValid = false)

/-- The last reported point is a decoded point of slot 0's contact (10_state.md R25, 42_position_decoder.md R106). -/
abbrev State.lastPointLegal (s : State) : Prop :=
  s.gesture.lastValid = true →
    s.slot0.posValid = true ∧ Point.decodedUnder s.profile.ymax ⟨s.gesture.lastX, s.gesture.lastY⟩

/-- MALFORMED can be 1 only when VERDICT is HEAD or TAIL (60_exceptions.md R151). -/
abbrev Status.legal (st : Status) : Prop :=
  st.malformed = true → st.verdict = .head ∨ st.verdict = .tail

/-- The verdicts a generation can give (40_frame_assembly.md R73, 41_classifier.md R92); NONE before its first frame. -/
def verdictOfGeneration (g : Generation) (v : Verdict) : Bool :=
  match g, v with
  | _, .none => true
  | .g3, .debounce | .g3, .head | .g3, .tail | .g3, .unknown => true
  | .g1, .parityPass | .g1, .parityFail => true
  | .g2, .unsupported | .g4, .unsupported => true
  | _, _ => false

/-- The event port holds a delta two valid samples of one profile can have (42_position_decoder.md R102). -/
abbrev EventPort.inRange (e : EventPort) : Prop := e.dx.toInt.natAbs ≤ 4094 ∧ e.dy.toInt.natAbs ≤ 4095

/-- The decode state and the outputs other than VERDICT have their reset values, coordinates apart
(70_reset_and_hazards.md R170). -/
abbrev State.nothingDecoded (s : State) : Prop :=
  s.slot0.startValid = false ∧ s.slot1.startValid = false ∧
  s.gesture.lastValid = false ∧ s.gesture.lastCount = 0 ∧ s.gesture.tapToClick = true ∧
  s.status.malformed = false ∧ s.event = ⟨false, 0, 0, 0⟩ ∧ s.diag = ⟨0, 0⟩

/-- Without a generation-3 profile nothing is ever decoded (10_state.md R17, 41_classifier.md R88, R89, R91), and without
any profile there is no verdict. -/
abbrev State.decodesOnlyGeneration3 (s : State) : Prop :=
  (¬ (s.profile.valid = true ∧ s.profile.gen = .g3) → s.nothingDecoded) ∧
  (s.profile.valid = false → s.status.verdict = .none)

/-- The registers' part of the invariant. -/
structure State.RegistersLegal (s : State) : Prop where
  profile     : s.profile.consistent
  position    : s.framePositionInside
  flags0      : s.slot0.flagsLegal
  flags1      : s.slot1.flagsLegal
  points0     : s.slot0.pointsDecoded s.profile.ymax
  points1     : s.slot1.pointsDecoded s.profile.ymax
  tapFlag     : s.tapFlagAgrees
  count       : s.countLegal
  lastPoint   : s.lastPointLegal
  status      : s.status.legal
  verdict     : s.profile.valid = true → verdictOfGeneration s.profile.gen s.status.verdict = true
  event       : s.event.inRange
  generation3 : s.decodesOnlyGeneration3

/-- The invariant of the block: it holds at reset and every step keeps it. Between a power transition and the reset after
it the registers hold free values, and nothing is claimed of them (60_exceptions.md R159; log 19); between that reset and
the CFG_LOAD after it there is no profile (70_reset_and_hazards.md R170; log 11). -/
structure State.Inv (s : State) : Prop where
  registers : s.power.stage ≠ .lost → s.RegistersLegal
  noProfile : s.power.stage = .awaitingLoad → s.profile.valid = false

/-! ## What unspecified values may not influence -/

/-- Two slots with the same flags and the same valid points (00_scope.md R5). -/
abbrev FingerTrack.alike (t u : FingerTrack) : Prop :=
  t.posValid = u.posValid ∧ t.startValid = u.startValid ∧ t.tapInRange = u.tapInRange ∧
  t.pos? = u.pos? ∧ t.start? = u.start?

/-- Two states that differ at most in registers the spec calls unspecified: the profile registers without a profile, FB
beyond the bytes received, and points whose validity flag is 0 (70_reset_and_hazards.md R170). -/
structure State.Alike (s t : State) : Prop where
  profileValid : s.profile.valid = t.profile.valid
  profile      : s.profile.valid = true → s.profile = t.profile
  cnt          : s.asm.cnt = t.asm.cnt
  received     : ∀ j : Fin 6, j < s.asm.cnt → s.asm.fb[j.val] = t.asm.fb[j.val]
  slot0        : s.slot0.alike t.slot0
  slot1        : s.slot1.alike t.slot1
  lastCount    : s.gesture.lastCount = t.gesture.lastCount
  tapToClick   : s.gesture.tapToClick = t.gesture.tapToClick
  lastValid    : s.gesture.lastValid = t.gesture.lastValid
  last         : s.gesture.last? = t.gesture.last?
  status       : s.status = t.status
  event        : s.event = t.event
  diag         : s.diag = t.diag
  inputs       : s.inputs = t.inputs
  power        : s.power = t.power

/-! ## Sequences -/

/-- The instructions of a list, one after the other, stopping at the first that does not give a next state. -/
def execAll : List Instr → State → Host.Outcome State Fault Refusal
  | [], s => .next s
  | i :: rest, s =>
    match exec i s with
    | .next t => execAll rest t
    | .fault r => .fault r
    | .refused r => .refused r

/-- The host offers no power transition (60_exceptions.md R159). -/
def powerStays (l : List Transaction) : Prop := ∀ t ∈ l, t ≠ .powerTransition

/-- The frame buffer after a BYTE_IN of `v` is accepted in `s` (40_frame_assembly.md R70). -/
def bufferWith (v : Byte) (s : State) : Vector Byte 6 := s.asm.fb.set s.asm.cnt.val v

/-- The 6-byte frame word in a frame buffer (20_memory.md R43). -/
def wordIn (fb : Vector Byte 6) : FrameWord := frameWord fb[0] fb[1] fb[2] fb[3] fb[4] fb[5]

/-- The 4-byte frame word in a frame buffer (20_memory.md R43). -/
def shortWordIn (fb : Vector Byte 6) : ShortFrameWord := shortFrameWord fb[0] fb[1] fb[2] fb[3]

end Sys2Proof.Machine
end

