-- ==== Sys2Proof/Certificates/Slice0/Obligations.lean ====
section
/-!
DEFINITION. The statements for the provers, `Obligations.<Name>`, and the few relations they are written with. The
relations say a rule's effect on integers and single registers, not through the operations of the model.
-/

namespace Sys2Proof.Spec

open Sys2Proof Sys2Proof.Machine

/-- Every register of `t`, in all eight groups, has the value `r` gives it. -/
def HoldsRegisters (r : Registers) (t : State) : Prop :=
  t.profile = r.profile ∧ t.asm = r.asm ∧ t.slot0 = r.slot0 ∧ t.slot1 = r.slot1 ∧ t.gesture = r.gesture ∧
  t.status = r.status ∧ t.event = r.event ∧ t.diag = r.diag

/-- What a frame row never writes: profile, frame assembler, and the model's own fields. -/
def Untouched (s t : State) : Prop :=
  t.profile = s.profile ∧ t.asm = s.asm ∧ t.inputs = s.inputs ∧ t.power = s.power

/-- No finger track and no gesture register differs. -/
def SameDecodeState (s t : State) : Prop :=
  t.slot0 = s.slot0 ∧ t.slot1 = s.slot1 ∧ t.gesture = s.gesture

/-- The diagnostics of a frame: PW_LAYOUT(B) (42_position_decoder.md R103). -/
def diagnosticsOf (w : FrameWord) : Diagnostics :=
  ⟨(Config.pressureWidth w).pressure, (Config.pressureWidth w).width⟩

/-- A slot's coordinates are kept and its three flags are 0. -/
def FlagsCleared (a b : FingerTrack) : Prop :=
  b = ⟨false, a.posX, a.posY, false, a.startX, a.startY, false⟩

/-- DecodeReset (70_reset_and_hazards.md R170): every register it writes, and FB and the coordinates kept. -/
def DecodeResetDone (s t : State) : Prop :=
  t.asm.cnt = 0 ∧ t.asm.fb = s.asm.fb ∧ FlagsCleared s.slot0 t.slot0 ∧ FlagsCleared s.slot1 t.slot1 ∧
  t.gesture = ⟨0, true, false, s.gesture.lastX, s.gesture.lastY⟩ ∧
  t.status = ⟨.none, false⟩ ∧ t.event = ⟨false, 0, 0, 0⟩ ∧ t.diag = ⟨0, 0⟩

/-- The decoded y of a raw y as an integer (42_position_decoder.md R100). -/
def invertedY (s : State) (yraw : BitVec 12) : Int := (s.profile.ymax.toNat : Int) - (yraw.toNat : Int)

/-- The decoded sample is valid (42_position_decoder.md R101). -/
abbrev SampleValid (s : State) (x yraw : BitVec 12) : Prop := x.toNat ≠ 0 ∧ invertedY s yraw ≠ 0

/-- What a valid sample (x, y) does to a slot, `a` before and `b` after, and to TAP_TO_CLICK, `c` before and `d` after:
the position (42_position_decoder.md R106 to R108), the latch at first contact (43_tap_gesture.md R131), else the
threshold comparator (R132). -/
def Tracked (a b : FingerTrack) (c d : Bool) (x y : Int) : Prop :=
  b.posValid = true ∧ (b.posX.toNat : Int) = x ∧ b.posY.toInt = y ∧ b.startValid = true ∧
  (a.startValid = false → (b.startX.toNat : Int) = x ∧ b.startY.toInt = y ∧ b.tapInRange = true ∧ d = c) ∧
  (a.startValid = true → b.startX = a.startX ∧ b.startY = a.startY ∧
    ((32 < (x - (a.startX.toNat : Int)).natAbs ∨ 32 < (y - a.startY.toInt).natAbs) →
      b.tapInRange = false ∧ d = false) ∧
    (¬ (32 < (x - (a.startX.toNat : Int)).natAbs ∨ 32 < (y - a.startY.toInt).natAbs) →
      b.tapInRange = a.tapInRange ∧ d = c))

/-- The synthesized button bit of a release (43_tap_gesture.md R134). -/
def tapBit (s : State) : BitVec 2 :=
  if (s.gesture.lastCount = 1 ∨ s.gesture.lastCount = 2) ∧ s.gesture.tapToClick = true ∧
      (s.slot0.startValid = false ∨ s.slot0.tapInRange = true) ∧
      (s.slot1.startValid = false ∨ s.slot1.tapInRange = true)
  then (if s.gesture.lastCount = 1 then 1 else 2) else 0

/-- The zero-finger frame (42_position_decoder.md R105, 43_tap_gesture.md R134, R135). -/
def Released (s t : State) (v : Verdict) (w : FrameWord) (buttons : BitVec 2) : Prop :=
  Untouched s t ∧ t.status = ⟨v, false⟩ ∧ t.diag = diagnosticsOf w ∧
  t.event = ⟨true, 0, 0, buttons ||| tapBit s⟩ ∧
  FlagsCleared s.slot0 t.slot0 ∧ FlagsCleared s.slot1 t.slot1 ∧
  t.gesture = ⟨0, true, false, s.gesture.lastX, s.gesture.lastY⟩

/-- The one-finger frame (42_position_decoder.md R106). -/
def OneFinger (s t : State) (v : Verdict) (w : FrameWord) (x yraw : BitVec 12) (buttons : BitVec 2) : Prop :=
  Untouched s t ∧ t.diag = diagnosticsOf w ∧ t.slot1 = s.slot1 ∧ t.status.verdict = v ∧
  t.gesture.lastCount = 1 ∧
  (¬ SampleValid s x yraw → t.status.malformed = true ∧ t.event = s.event ∧ t.slot0 = s.slot0 ∧
    t.gesture = { s.gesture with lastCount := 1 }) ∧
  (SampleValid s x yraw → t.status.malformed = false ∧
    (s.gesture.lastValid = false → t.event = s.event) ∧
    (s.gesture.lastValid = true → t.event = ⟨true, BitVec.ofInt 16 ((x.toNat : Int) - (s.gesture.lastX.toNat : Int)),
      BitVec.ofInt 16 (invertedY s yraw - s.gesture.lastY.toInt), buttons⟩) ∧
    t.gesture.lastValid = true ∧ t.gesture.lastX = x ∧ t.gesture.lastY.toInt = invertedY s yraw ∧
    Tracked s.slot0 t.slot0 s.gesture.tapToClick t.gesture.tapToClick (x.toNat : Int) (invertedY s yraw))

/-- The two-finger frame of one slot (42_position_decoder.md R107, R108): the other slot, the last point and the event
port stay. -/
def TwoFingers (s t : State) (k other : SlotId) (v : Verdict) (w : FrameWord) (x yraw : BitVec 12) : Prop :=
  Untouched s t ∧ t.diag = diagnosticsOf w ∧ t.event = s.event ∧ t.slot other = s.slot other ∧
  t.status.verdict = v ∧
  (¬ SampleValid s x yraw → t.status.malformed = true ∧ t.slot k = s.slot k ∧
    t.gesture = { s.gesture with lastCount := 2 }) ∧
  (SampleValid s x yraw → t.status.malformed = false ∧
    t.gesture = { s.gesture with lastCount := 2, tapToClick := t.gesture.tapToClick } ∧
    Tracked (s.slot k) (t.slot k) s.gesture.tapToClick t.gesture.tapToClick (x.toNat : Int) (invertedY s yraw))

/-- Only VERDICT changes, to the given code, and MALFORMED is 0 (41_classifier.md R81, 40_frame_assembly.md R73). -/
def OnlyVerdict (s t : State) (code : BitVec 3) : Prop :=
  ∃ v : Verdict, v.code = code ∧ t = { s with status := ⟨v, false⟩ }

/-- The word's masked bits are the given ones (30_encoding.md R54). -/
abbrev Takes (mask expected w : FrameWord) : Prop := w &&& mask = expected

/-- A generation-3 frame that is decoded: its class is Head or Tail. -/
abbrev Decoded (w : FrameWord) : Prop := classifyV3 w = .head ∨ classifyV3 w = .tail

/-- The two states differ at most in the diagnostics. -/
def SameButDiagnostics (t u : State) : Prop := { t with diag := u.diag } = u

/-- The two states differ at most in the diagnostics and in VERDICT. -/
def SameButDiagnosticsAndVerdict (t u : State) : Prop :=
  { t with diag := u.diag, status := ⟨u.status.verdict, t.status.malformed⟩ } = u

/-- A frame row that is no full release: every frame class but V3_HEAD_F0 and V3_TAIL_F0. -/
def keepsContact : Instr → Bool
  | .byteIn _ => false
  | .cfgLoad _ _ _ => false
  | .v3Debounce => true
  | .v3HeadF0 _ => false
  | .v3HeadF1 _ => true
  | .v3HeadF2 _ => true
  | .v3HeadF3 _ => true
  | .v3TailF0 _ => false
  | .v3TailF1 _ => true
  | .v3TailF2 _ => true
  | .v3TailF3 _ => true
  | .v3Unknown _ => true
  | .v1Frame _ => true
  | .v2Frame _ => true
  | .v4Frame _ => true

/-- A one-finger row, Head or Tail, with these operands (42_position_decoder.md R106). -/
def OneFingerRow (i : Instr) (x yraw : BitVec 12) (buttons : BitVec 2) : Prop :=
  (∃ f : HeadFields, i = .v3HeadF1 f ∧ f.x = x ∧ f.yraw = yraw ∧ f.buttons = buttons) ∨
  (∃ f : TailFields, i = .v3TailF1 f ∧ f.x = x ∧ f.yraw = yraw ∧ f.buttons = buttons)

/-- A zero-finger row, Head or Tail, with these buttons (42_position_decoder.md R105). -/
def ReleaseRow (i : Instr) (buttons : BitVec 2) : Prop :=
  (∃ f : HeadFields, i = .v3HeadF0 f ∧ f.buttons = buttons) ∨ (∃ f : TailFields, i = .v3TailF0 f ∧ f.buttons = buttons)

/-- A one-finger row whose sample is valid and within 32 of (x0, y0) in both axes (43_tap_gesture.md R132). -/
def NearOneFinger (s : State) (x0 y0 : Int) (i : Instr) : Prop :=
  ∃ x yraw buttons, OneFingerRow i x yraw buttons ∧ SampleValid s x yraw ∧
    ((x.toNat : Int) - x0).natAbs ≤ 32 ∧ (invertedY s yraw - y0).natAbs ≤ 32

end Sys2Proof.Spec

section Statements

open Sys2Proof Sys2Proof.Machine Sys2Proof.Spec

/-! ## Reset and the profile -/

/-- 70_reset_and_hazards.md R170: a reset clears PROFILE_VALID and applies DecodeReset, in every state; CFG_LOAD applies
DecodeReset too; the state after reset has those values. R170 calls FB, the coordinates and the CFG_* registers
unspecified after a reset: that they keep what they hold is the model's choice (log 4), and so is the queue the reset is
taken from, without it (log 2). -/
def Obligations.ResetClearsProfileAndDecodeState : Prop :=
  (∀ (s : State) (rest : List Transaction), s.inputs = .reset :: rest →
    ∃ t, step s = .next t ∧ t.profile = { s.profile with valid := false } ∧ DecodeResetDone s t ∧ t.inputs = rest) ∧
  (∀ (fw : Firmware) (ymax : BitVec 12) (o : ParityOverride) (s : State),
    ∃ t, exec (.cfgLoad fw ymax o) s = .next t ∧ DecodeResetDone s t) ∧
  State.reset.profile.valid = false ∧ DecodeResetDone State.reset State.reset

/-- 10_state.md R11: GenOf by the firmware bounds and the indicator `(fw >> 16) & 0x0F`; CFG_GEN is its value after a
load, and with no value the load leaves no profile. -/
def Obligations.GenerationFromFirmware : Prop :=
  (∀ (fw : Firmware) (ymax : BitVec 12) (o : ParityOverride) (s : State),
    ∃ t, exec (.cfgLoad fw ymax o) s = .next t ∧ (∀ g, genOf fw = some g → t.profile.gen = g) ∧
      t.profile.valid = (genOf fw).isSome) ∧
  ∀ fw : Firmware,
    genOf fw =
      (if fw.toNat < 0x020030 ∨ fw.toNat = 0x020600 then some .g1
       else if (fw.toNat >>> 16) &&& 0x0F = 2 ∨ (fw.toNat >>> 16) &&& 0x0F = 4 then some .g2
       else if (fw.toNat >>> 16) &&& 0x0F = 5 then some .g3
       else if (fw.toNat >>> 16) &&& 0x0F = 6 then some .g4
       else none)

/-- 10_state.md R16, with R12, R14 and R15: CFG_LOAD completes in every state; it writes the profile and PROFILE_VALID
on success, clears PROFILE_VALID on DetectionFailure, and applies DecodeReset both ways. The other transaction, BYTE_IN,
writes no profile register. That the other CFG_* registers stay on DetectionFailure is the model's reading of R16 (log 15),
and that FB and the coordinates stay is the model's choice (log 4). -/
def Obligations.CfgLoadWritesProfile : Prop :=
  (∀ (v : Byte) (s t : State), exec (.byteIn v) s = .next t → t.profile = s.profile) ∧
  ∀ (fw : Firmware) (ymax : BitVec 12) (o : ParityOverride) (s : State),
    ∃ t, exec (.cfgLoad fw ymax o) s = .next t ∧ DecodeResetDone s t ∧
      t.inputs = s.inputs ∧ t.power = s.power ∧
      (genOf fw = none → t.profile = { s.profile with valid := false }) ∧
      (∀ g, genOf fw = some g →
        t.profile.valid = true ∧ t.profile.fw = fw ∧ t.profile.gen = g ∧
        t.profile.pktsize.toNat = (if g = .g1 then 4 else 6) ∧
        t.profile.ymax = ymax ∧
        (t.profile.parityEn = false ↔ o = .forceZero) ∧
        (t.profile.jumpy = true ↔ fw.toNat = 0x020022 ∨ fw.toNat = 0x020600) ∧
        (t.profile.pressure = true ↔ g ≠ .g1 ∧ 0x020800 ≤ fw.toNat))

/-- Only CFG_LOAD writes the profile (10_state.md R16, R28; 00_scope.md R4): no other instruction changes a profile
register, and none touches the model's own fields. -/
def Obligations.ProfileWrittenOnlyByLoad : Prop :=
  ∀ (i : Instr) (s t : State), exec i s = .next t →
    t.inputs = s.inputs ∧ t.power = s.power ∧
    ((∀ fw ymax o, i ≠ .cfgLoad fw ymax o) → t.profile = s.profile)

/-! ## Steps and the assembler -/

/-- A step runs the instruction that the oldest offered transaction decodes to, at the state without it; the words on the
ports decode to BYTE_IN and CFG_LOAD with their operands (30_encoding.md R50, 20_memory.md R46). The queue and the packing
of CFG_LOAD's operands in one word are the model's (log 2, log 9); after a power transition WaitingAndPowerTransition says
what a step does (log 11). -/
def Obligations.StepRunsOfferedTransaction : Prop :=
  (∀ (s : State) (tr : Transaction) (rest : List Transaction) (i : Instr),
    s.inputs = tr :: rest → s.power.stage = .intact → decodeTransaction tr = some i →
    i.wf = true ∧ step s = exec i { s with inputs := rest }) ∧
  (∀ v : Byte, decodeTransaction (.port8 v) = some (.byteIn v)) ∧
  (∀ (fw : Firmware) (ymax : BitVec 12) (o : ParityOverride),
    decodeTransaction (.portCfg (configWord fw ymax o)) = some (.cfgLoad fw ymax o))

/-- The model's choices about what surrounds the block. With nothing offered nothing changes (log 2). After a power
transition every register and every output holds a free value, whatever it held before (log 19), and every port
transaction stops with a fault until a reset; after that reset a byte stops with a fault until a CFG_LOAD, which runs
(log 11). A reset in a block with no power transition behind it asks for no load. 60_exceptions.md R159 says that the state
is not specified to survive and what the host applies; the stops and the free values are the model's. -/
def Obligations.WaitingAndPowerTransition : Prop :=
  (∀ s : State, s.inputs = [] → step s = .next s) ∧
  (∀ (s : State) (rest : List Transaction), s.inputs = .powerTransition :: rest →
    ∃ t, step s = .next t ∧ t.inputs = rest ∧ t.power = ⟨.lost, s.power.transitions + 1⟩ ∧
      HoldsRegisters (Config.afterPowerTransition s.power.transitions) t) ∧
  (∀ (s : State) (tr : Transaction) (rest : List Transaction) (i : Instr),
    s.inputs = tr :: rest → decodeTransaction tr = some i → s.power.stage = .lost →
    step s = .fault .stateLostByPowerTransition) ∧
  (∀ (s : State) (rest : List Transaction), s.inputs = .reset :: rest →
    ∃ t, step s = .next t ∧ t.power.transitions = s.power.transitions ∧
      (s.power.stage = .intact → t.power.stage = .intact) ∧
      (s.power.stage ≠ .intact → t.power.stage = .awaitingLoad)) ∧
  (∀ (s : State) (v : Byte) (rest : List Transaction), s.inputs = .port8 v :: rest → s.power.stage = .awaitingLoad →
    step s = .fault .noLoadSincePowerTransition) ∧
  (∀ (s : State) (c : ConfigWord) (rest : List Transaction),
    s.inputs = .portCfg c :: rest → s.power.stage = .awaitingLoad →
    step s = exec (decodeConfig c) { s with inputs := rest, power := ⟨.intact, s.power.transitions⟩ })

/-- 40_frame_assembly.md R75: without a profile a byte is discarded; only EV_VALID is written, to 0. -/
def Obligations.BytesWithoutProfileDiscarded : Prop :=
  ∀ (v : Byte) (s : State), s.profile.valid = false →
    exec (.byteIn v) s = .next { s with event := ⟨false, s.event.dx, s.event.dy, s.event.buttons⟩ }

/-- 40_frame_assembly.md R71: a byte that does not complete a frame writes FB[CNT], CNT and EV_VALID, nothing else. -/
def Obligations.PartialFrameStoresOneByte : Prop :=
  ∀ (v : Byte) (s : State), s.profile.valid = true → s.asm.cnt.val + 1 < s.profile.pktsize.toNat →
    ∃ t, exec (.byteIn v) s = .next t ∧
      t.asm.cnt.val = s.asm.cnt.val + 1 ∧
      t.asm.fb = s.asm.fb.set s.asm.cnt.val v ∧
      t = { s with asm := t.asm, event := ⟨false, s.event.dx, s.event.dy, s.event.buttons⟩ }

/-- The byte that completes a frame runs the row the frame decodes to, in the same transaction, on the state with the
byte stored, CNT at 0 and the strobe down (40_frame_assembly.md R70, R73; 30_encoding.md R54). -/
def Obligations.ByteInRunsCompletedFrame : Prop :=
  ∀ (v : Byte) (s : State), s.profile.valid = true → s.asm.cnt.val + 1 = s.profile.pktsize.toNat →
    exec (.byteIn v) s =
      exec (decodeFrame s.profile.gen (bufferWith v s))
        { s with asm := ⟨bufferWith v s, 0⟩, event := ⟨false, s.event.dx, s.event.dy, s.event.buttons⟩ }

/-- 20_memory.md R41: the bytes of a frame are numbered in arrival order. From a frame boundary, six bytes under a 6-byte
profile, or four under a 4-byte one, run the row of the frame whose byte i is the i-th of them. -/
def Obligations.WholeFrameInArrivalOrder : Prop :=
  (∀ (s : State) (b0 b1 b2 b3 b4 b5 : Byte), s.profile.valid = true → s.asm.cnt = 0 → s.profile.pktsize = .six →
    execAll [.byteIn b0, .byteIn b1, .byteIn b2, .byteIn b3, .byteIn b4, .byteIn b5] s =
      exec (decodeFrame s.profile.gen #v[b0, b1, b2, b3, b4, b5])
        { s with
          asm := ⟨#v[b0, b1, b2, b3, b4, b5], 0⟩
          event := ⟨false, s.event.dx, s.event.dy, s.event.buttons⟩ }) ∧
  (∀ (s : State) (b0 b1 b2 b3 : Byte), s.profile.valid = true → s.asm.cnt = 0 → s.profile.pktsize = .four →
    execAll [.byteIn b0, .byteIn b1, .byteIn b2, .byteIn b3] s =
      exec (decodeFrame s.profile.gen #v[b0, b1, b2, b3, s.asm.fb[4], s.asm.fb[5]])
        { s with
          asm := ⟨#v[b0, b1, b2, b3, s.asm.fb[4], s.asm.fb[5]], 0⟩
          event := ⟨false, s.event.dx, s.event.dy, s.event.buttons⟩ })

/-- 40_frame_assembly.md R72: a completed frame is processed exactly once. The completing BYTE_IN runs the frame's row,
and leaves the frame in FB and CNT = 0; fewer than CFG_PKTSIZE further bytes write no verdict, finger track, gesture
register or diagnostic and raise no event. -/
def Obligations.CompletedFrameIsConsumedOnce : Prop :=
  ∀ (v : Byte) (s : State), s.profile.valid = true → s.asm.cnt.val + 1 = s.profile.pktsize.toNat →
    exec (.byteIn v) s =
      exec (decodeFrame s.profile.gen (bufferWith v s))
        { s with asm := ⟨bufferWith v s, 0⟩, event := ⟨false, s.event.dx, s.event.dy, s.event.buttons⟩ } ∧
    ∃ t, exec (.byteIn v) s = .next t ∧ t.asm = ⟨bufferWith v s, 0⟩ ∧ t.profile = s.profile ∧
      ∀ bs : List Byte, bs.length < s.profile.pktsize.toNat →
        ∃ u, execAll (bs.map Instr.byteIn) t = .next u ∧ u.asm.cnt.val = bs.length ∧
          u.status = t.status ∧ SameDecodeState t u ∧ u.diag = t.diag ∧ u.profile = t.profile ∧
          (bs ≠ [] → u.event.valid = false)

/-- 20_memory.md R45: frame boundaries are fixed by the number of bytes accepted: after any bytes whatever, CNT has
advanced by their number modulo CFG_PKTSIZE. -/
def Obligations.FramingByByteCount : Prop :=
  ∀ (bs : List Byte) (s : State), s.profile.valid = true → s.asm.cnt.val < s.profile.pktsize.toNat →
    s.power.stage = .intact → s.inputs = bs.map Transaction.port8 →
    ∃ t, core.run bs.length s = .next t ∧ t.inputs = [] ∧ t.profile = s.profile ∧
      t.asm.cnt.val = (s.asm.cnt.val + bs.length) % s.profile.pktsize.toNat

/-- 00_scope.md R2: every sequence of offered bytes, loads and resets is accepted, in every state. The premise leaves out
power transitions, the model's own inputs (log 11). -/
def Obligations.EveryInputSequenceAccepted : Prop :=
  ∀ (n : Nat) (s : State), s.power.stage = .intact → powerStays s.inputs → ∃ t, core.run n s = .next t

/-! ## Encoding -/

/-- 41_classifier.md R80: the class of six bytes, by the byte tests in priority order. -/
def Obligations.ClassifierTestsBytes : Prop :=
  ∀ b0 b1 b2 b3 b4 b5 : Byte,
    classifyV3 (frameWord b0 b1 b2 b3 b4 b5) =
      (if [b0, b1, b2, b3, b4, b5] = [0xC4, 0xFF, 0xFF, 0x02, 0xFF, 0xFF] then .debounce
       else if b0 &&& 0x0C = 0x04 ∧ b3 &&& 0xCF = 0x02 then .head
       else if b0 &&& 0x0C = 0x0C ∧ b3 &&& 0xCE = 0x0C then .tail
       else .unknown)

/-- 30_encoding.md R52 and R53: the classes by mask and match on the frame word, in priority order; Head and Tail are
disjoint; the Debounce word matches the Head pattern with three fingers. -/
def Obligations.ClassesFollowWordPatterns : Prop :=
  (∀ w : FrameWord,
    classifyV3 w =
      (if Takes 0xFFFFFFFFFFFF#48 0xC4FFFF02FFFF#48 w then .debounce
       else if Takes 0x0C0000CF0000#48 0x040000020000#48 w then .head
       else if Takes 0x0C0000CE0000#48 0x0C00000C0000#48 w then .tail
       else .unknown)) ∧
  (∀ w : FrameWord, ¬ (Takes 0x0C0000CF0000#48 0x040000020000#48 w ∧ Takes 0x0C0000CE0000#48 0x0C00000C0000#48 w)) ∧
  Takes 0x0C0000CF0000#48 0x040000020000#48 0xC4FFFF02FFFF#48 ∧ fingersOf 0xC4FFFF02FFFF#48 = 3

/-- 30_encoding.md R54: the row of every frame word, by the mask and match of each row, Debounce first. -/
def Obligations.RowsFollowMaskAndMatch : Prop :=
  ∀ w : FrameWord,
    (decodeV3 w = .v3Debounce ↔ Takes 0xFFFFFFFFFFFF#48 0xC4FFFF02FFFF#48 w) ∧
    ((∃ f, decodeV3 w = .v3HeadF0 f) ↔ Takes 0xCC0000CF0000#48 0x040000020000#48 w) ∧
    ((∃ f, decodeV3 w = .v3HeadF1 f) ↔ Takes 0xCC0000CF0000#48 0x440000020000#48 w) ∧
    ((∃ f, decodeV3 w = .v3HeadF2 f) ↔ Takes 0xCC0000CF0000#48 0x840000020000#48 w) ∧
    ((∃ f, decodeV3 w = .v3HeadF3 f) ↔
      Takes 0xCC0000CF0000#48 0xC40000020000#48 w ∧ ¬ Takes 0xFFFFFFFFFFFF#48 0xC4FFFF02FFFF#48 w) ∧
    ((∃ f, decodeV3 w = .v3TailF0 f) ↔ Takes 0xCC0000CE0000#48 0x0C00000C0000#48 w) ∧
    ((∃ f, decodeV3 w = .v3TailF1 f) ↔ Takes 0xCC0000CE0000#48 0x4C00000C0000#48 w) ∧
    ((∃ f, decodeV3 w = .v3TailF2 f) ↔ Takes 0xCC0000CE0000#48 0x8C00000C0000#48 w) ∧
    ((∃ f, decodeV3 w = .v3TailF3 f) ↔ Takes 0xCC0000CE0000#48 0xCC00000C0000#48 w) ∧
    (decodeV3 w = .v3Unknown w ↔
      ¬ Takes 0xFFFFFFFFFFFF#48 0xC4FFFF02FFFF#48 w ∧ ¬ Takes 0x0C0000CF0000#48 0x040000020000#48 w ∧
        ¬ Takes 0x0C0000CE0000#48 0x0C00000C0000#48 w)

/-- 30_encoding.md R57: the operands of six bytes, as numbers. -/
def Obligations.OperandFieldsOfFrame : Prop :=
  ∀ b0 b1 b2 b3 b4 b5 : Byte,
    (fingersOf (frameWord b0 b1 b2 b3 b4 b5)).toNat = b0.toNat >>> 6 ∧
    (buttonsOf (frameWord b0 b1 b2 b3 b4 b5)).toNat = b0.toNat &&& 0x03 ∧
    (xOf (frameWord b0 b1 b2 b3 b4 b5)).toNat = ((b1.toNat &&& 0x0F) <<< 8) ||| b2.toNat ∧
    (yrawOf (frameWord b0 b1 b2 b3 b4 b5)).toNat = ((b4.toNat &&& 0x0F) <<< 8) ||| b5.toNat

/-- Decode of encode: every well-formed instruction's bytes decode to it, in its row's format, with every operand at
every value (30_encoding.md R50 to R57). The packing of CFG_LOAD's operands is the model's (log 9). -/
def Obligations.DecodeOfEncode : Prop :=
  ∀ i : Instr, i.wf = true → decodeBytes (formatOf i) (encode i) = .ok i

/-- Encode of decode: bytes that decode give a well-formed instruction of that format, whose bytes they are
(30_encoding.md R50 to R57). The packing of CFG_LOAD's operands is the model's (log 9). -/
def Obligations.EncodeOfDecode : Prop :=
  ∀ (fmt : Format) (bs : List Byte) (i : Instr), decodeBytes fmt bs = .ok i →
    i.wf = true ∧ formatOf i = fmt ∧ encode i = bs

/-- 30_encoding.md R61: the bytes of a Head or Tail frame with all don't-care bits 0, never the Debounce word, and the
raw y that gives a wanted decoded y. -/
def Obligations.EncoderWritesFrameBytes : Prop :=
  (∀ (n : BitVec 2) (r l : Bool) (x yraw : BitVec 12),
    let b : BitVec 2 := BitVec.ofBool r ++ BitVec.ofBool l
    let b0 (low : Nat) : Byte := BitVec.ofNat 8 ((n.toNat <<< 6) ||| low ||| (r.toNat <<< 1) ||| l.toNat)
    let lo (z : BitVec 12) : Byte := BitVec.ofNat 8 (z.toNat &&& 0xFF)
    let hi (z : BitVec 12) : Byte := BitVec.ofNat 8 (z.toNat >>> 8)
    frameBytes (headWord n ⟨0, b, 0, x, 0, 0, yraw⟩) = [b0 0x04, hi x, lo x, 0x02, hi yraw, lo yraw] ∧
    frameBytes (tailWord n ⟨0, b, 0, x, 0, 0, 0, yraw⟩) = [b0 0x0C, hi x, lo x, 0x0C, hi yraw, lo yraw] ∧
    headWord n ⟨0, b, 0, x, 0, 0, yraw⟩ ≠ debounceWord ∧ tailWord n ⟨0, b, 0, x, 0, 0, 0, yraw⟩ ≠ debounceWord) ∧
  (∀ (m x yraw : BitVec 12) (y : Int), (yraw.toNat : Int) = (m.toNat : Int) - y → (decodeSample m x yraw).yInt = y)

/-- 30_encoding.md R50 and R59, 10_state.md R12: bytes of any other number than the format's are refused by name. R50 makes
a byte the operand of BYTE_IN, R59 and R12 give the frame lengths; that a configuration word is five bytes is the model's
choice (log 9), since the spec gives its operands' widths only. -/
def Obligations.DecoderRefusesOtherLengths : Prop :=
  ∀ (fmt : Format) (bs : List Byte),
    bs.length ≠ (match fmt with
      | .port8 => 1
      | .portCfg => 5
      | .frame .g1 => 4
      | .frame .g2 => 6
      | .frame .g3 => 6
      | .frame .g4 => 6) →
    decodeBytes fmt bs = .error (.wrongLength fmt bs.length)

/-- Words of the spec's own table and vectors decode to their rows (opcode_table.json; 95_test_vectors.md 2.4). The model's
are the reading of a 48-bit word as a generation-3 frame (log 8) and of a CFG_LOAD word in 40 bits (log 9). -/
def Obligations.TableWordsDecode : Prop :=
  decodeTableWord 8 0x90 = some (.byteIn 0x90) ∧
  decodeTableWord 40 0x00A00003E8 = some (.cfgLoad 0x050000 500 .absent) ∧
  decodeTableWord 48 0xC4FFFF02FFFF = some .v3Debounce ∧
  decodeTableWord 48 0x440064320190 = some (.v3HeadF1 ⟨0, 0, 0, 100, 3, 0, 400⟩) ∧
  decodeTableWord 48 0x8C01900C00C8 = some (.v3TailF2 ⟨0, 0, 0, 400, 0, 0, 0, 200⟩) ∧
  decodeTableWord 48 0x440064420190 = some (.v3Unknown 0x440064420190) ∧
  decodeTableWord 32 0x24010300 = some (.v1Frame 0x24010300)

/-- The placement of an opcode-table word: the very next step runs its instruction. A port row runs at the state itself; a
frame row runs inside the BYTE_IN of its last byte, with CNT at 0, the strobe down, and the decode state and the other
outputs as they were. The placement is the model's (log 3), and so is the reading of the word by its width (log 8, log 9);
a placed word runs whatever power transition lies behind. -/
def Obligations.PlacedWordIsRunNext : Prop :=
  ∀ (s : State) (nbits w : Nat) (i : Instr), decodeTableWord nbits w = some i →
    ∃ u, step (s.withFetchWord nbits w) = exec i u ∧
      u.inputs = s.inputs ∧ u.power = ⟨.intact, s.power.transitions⟩ ∧ SameDecodeState s u ∧ u.status = s.status ∧
      u.diag = s.diag ∧
      u.profile.ymax = s.profile.ymax ∧ u.profile.parityEn = s.profile.parityEn ∧ u.profile.fw = s.profile.fw ∧
      ((nbits = 8 ∨ nbits = 37 ∨ nbits = 40) → u = { s with power := ⟨.intact, s.power.transitions⟩ }) ∧
      ((nbits = 32 ∨ nbits = 48) → u.asm.cnt = 0 ∧ u.profile.valid = true ∧
        u.event = ⟨false, s.event.dx, s.event.dy, s.event.buttons⟩)

/-! ## Frame rows: results, frames and completion -/

/-- 42_position_decoder.md R105 with 43_tap_gesture.md R134 and R135: a zero-finger Head or Tail frame completes in every
state, emits the release event with the tap bit, and clears every slot. -/
def Obligations.ReleaseFrameEffect : Prop :=
  (∀ (f : HeadFields) (s : State), ∃ t, exec (.v3HeadF0 f) s = .next t ∧ Released s t .head (headWord 0 f) f.buttons) ∧
  (∀ (f : TailFields) (s : State), ∃ t, exec (.v3TailF0 f) s = .next t ∧ Released s t .tail (tailWord 0 f) f.buttons)

/-- 42_position_decoder.md R106, with R101, and 43_tap_gesture.md R131, R132: a one-finger Head or Tail frame completes in
every state, with the motion event, last point, slot 0 and LAST_COUNT of the rules. -/
def Obligations.OneFingerFrameEffect : Prop :=
  (∀ (f : HeadFields) (s : State), ∃ t, exec (.v3HeadF1 f) s = .next t ∧
    OneFinger s t .head (headWord 1 f) f.x f.yraw f.buttons) ∧
  (∀ (f : TailFields) (s : State), ∃ t, exec (.v3TailF1 f) s = .next t ∧
    OneFinger s t .tail (tailWord 1 f) f.x f.yraw f.buttons)

/-- 42_position_decoder.md R107 and R108: a two-finger Head frame tracks slot 0 and a two-finger Tail frame slot 1, in
every state, with no event and the last point untouched. -/
def Obligations.TwoFingerFrameEffect : Prop :=
  (∀ (f : HeadFields) (s : State), ∃ t, exec (.v3HeadF2 f) s = .next t ∧
    TwoFingers s t .s0 .s1 .head (headWord 2 f) f.x f.yraw) ∧
  (∀ (f : TailFields) (s : State), ∃ t, exec (.v3TailF2 f) s = .next t ∧
    TwoFingers s t .s1 .s0 .tail (tailWord 2 f) f.x f.yraw)

/-- 42_position_decoder.md R109: a three-finger frame writes VERDICT, MALFORMED and the diagnostics only. -/
def Obligations.ThreeFingerFrameEffect : Prop :=
  (∀ (f : HeadFields) (s : State), exec (.v3HeadF3 f) s =
    .next { s with status := ⟨.head, false⟩, diag := diagnosticsOf (headWord 3 f) }) ∧
  (∀ (f : TailFields) (s : State), exec (.v3TailF3 f) s =
    .next { s with status := ⟨.tail, false⟩, diag := diagnosticsOf (tailWord 3 f) })

/-- 41_classifier.md R81 and R84: Debounce and Unknown frames complete in every state and are dropped. That MALFORMED is 0
after them is the model's reading of R73 and R112 (log 14). -/
def Obligations.DroppedFrameEffect : Prop :=
  (∀ s : State, ∃ t, exec .v3Debounce s = .next t ∧ OnlyVerdict s t 1) ∧
  (∀ (w : FrameWord) (s : State), ∃ t, exec (.v3Unknown w) s = .next t ∧ OnlyVerdict s t 4)

/-- 41_classifier.md R86, R88, R89 and R90: a generation-1 frame completes in every state and writes its parity verdict
only. The positions are the model's parameter (log 5); that MALFORMED is 0 after it is the model's reading (log 14). -/
def Obligations.GenerationOneParity : Prop :=
  ∀ (b0 b1 b2 b3 : Byte) (s : State),
    ∃ t, exec (.v1Frame (shortFrameWord b0 b1 b2 b3)) s = .next t ∧
      OnlyVerdict s t
        (if s.profile.parityEn = false then 5
         else if b0.getLsbD (parityPos s.profile.fw).q1 = parityTable b1 ∧
             b0.getLsbD (parityPos s.profile.fw).q2 = parityTable b2 ∧
             b0.getLsbD (parityPos s.profile.fw).q3 = parityTable b3 then 5 else 6)

/-- 41_classifier.md R91: frames of generations 2 and 4 complete in every state and get the verdict UNSUPPORTED only. That
MALFORMED is 0 after them is the model's reading (log 14). -/
def Obligations.UnsupportedGenerationEffect : Prop :=
  (∀ (w : FrameWord) (s : State), ∃ t, exec (.v2Frame w) s = .next t ∧ OnlyVerdict s t 7) ∧
  (∀ (w : FrameWord) (s : State), ∃ t, exec (.v4Frame w) s = .next t ∧ OnlyVerdict s t 7)

/-- The bits no rule of the source interprets change nothing but the diagnostics: two frames of one row with equal
buttons and coordinates have one effect (30_encoding.md R51, R58; 42_position_decoder.md R103). -/
def Obligations.UninterpretedBitsHaveNoEffect : Prop :=
  (∀ (f g : HeadFields) (s : State), f.buttons = g.buttons → f.x = g.x → f.yraw = g.yraw →
    ∀ mk ∈ [Instr.v3HeadF0, Instr.v3HeadF1, Instr.v3HeadF2, Instr.v3HeadF3],
      ∃ t u, exec (mk f) s = .next t ∧ exec (mk g) s = .next u ∧ SameButDiagnostics t u) ∧
  (∀ (f g : TailFields) (s : State), f.buttons = g.buttons → f.x = g.x → f.yraw = g.yraw →
    ∀ mk ∈ [Instr.v3TailF0, Instr.v3TailF1, Instr.v3TailF2, Instr.v3TailF3],
      ∃ t u, exec (mk f) s = .next t ∧ exec (mk g) s = .next u ∧ SameButDiagnostics t u)

/-- 42_position_decoder.md R104: for 0, 1 and 3 fingers a Head and a Tail frame of equal operands decode alike. -/
def Obligations.HeadAndTailDecodeAlike : Prop :=
  ∀ (f : HeadFields) (g : TailFields) (s : State), f.buttons = g.buttons → f.x = g.x → f.yraw = g.yraw →
    (∃ t u, exec (.v3HeadF0 f) s = .next t ∧ exec (.v3TailF0 g) s = .next u ∧ SameButDiagnosticsAndVerdict t u) ∧
    (∃ t u, exec (.v3HeadF1 f) s = .next t ∧ exec (.v3TailF1 g) s = .next u ∧ SameButDiagnosticsAndVerdict t u) ∧
    (∃ t u, exec (.v3HeadF3 f) s = .next t ∧ exec (.v3TailF3 g) s = .next u ∧ SameButDiagnosticsAndVerdict t u)

/-! ## Status outputs, counters and events at frame completion -/

/-- 10_state.md R18: the recurrence of PT and its closed form. -/
def Obligations.ParityTableRecurrence : Prop :=
  parityTable 0 = true ∧
  (∀ i : Byte, i ≠ 0 → parityTable i = !(parityTable (i &&& (i - 1)))) ∧
  (∀ i : Byte, parityTable i = true ↔ ((List.range 8).countP fun k => i.getLsbD k) % 2 = 0)

/-- 41_classifier.md R92: at every frame completion VERDICT has the code of the frame's verdict, and a byte that completes
none keeps it. -/
def Obligations.VerdictAtFrameCompletion : Prop :=
  ∀ (v : Byte) (s t : State), exec (.byteIn v) s = .next t →
    (¬ (s.profile.valid = true ∧ s.asm.cnt.val + 1 = s.profile.pktsize.toNat) → t.status.verdict = s.status.verdict) ∧
    (s.profile.valid = true ∧ s.asm.cnt.val + 1 = s.profile.pktsize.toNat →
      t.status.verdict.code =
        (match s.profile.gen with
          | .g1 => if checkV1 s.profile (shortWordIn (bufferWith v s)) = .parityPass then 5 else 6
          | .g2 => 7
          | .g3 => (match classifyV3 (wordIn (bufferWith v s)) with
              | .debounce => 1
              | .head => 2
              | .tail => 3
              | .unknown => 4)
          | .g4 => 7))

/-- 41_classifier.md R85: under generation 3 two completed frames of equal bytes get equal verdicts, whatever the rest of
the two states. -/
def Obligations.VerdictDependsOnFrameAlone : Prop :=
  ∀ (v v' : Byte) (s s' t t' : State),
    exec (.byteIn v) s = .next t → exec (.byteIn v') s' = .next t' →
    s.profile.valid = true → s'.profile.valid = true → s.profile.gen = .g3 → s'.profile.gen = .g3 →
    s.asm.cnt.val + 1 = s.profile.pktsize.toNat → s'.asm.cnt.val + 1 = s'.profile.pktsize.toNat →
    bufferWith v s = bufferWith v' s' → t.status.verdict = t'.status.verdict

/-- 42_position_decoder.md R112: MALFORMED after a frame completion is 1 exactly for a one- or two-finger Head or Tail
frame with an invalid sample. -/
def Obligations.MalformedExactlyForInvalidSample : Prop :=
  ∀ (v : Byte) (s t : State), exec (.byteIn v) s = .next t → s.profile.valid = true →
    s.asm.cnt.val + 1 = s.profile.pktsize.toNat →
    (t.status.malformed = true ↔
      s.profile.gen = .g3 ∧ Decoded (wordIn (bufferWith v s)) ∧
      (fingersOf (wordIn (bufferWith v s)) = 1 ∨ fingersOf (wordIn (bufferWith v s)) = 2) ∧
      ¬ SampleValid s (xOf (wordIn (bufferWith v s))) (yrawOf (wordIn (bufferWith v s))))

/-- 42_position_decoder.md R110: LAST_COUNT after a frame completion is the frame's finger count for a Head or Tail frame
of 0, 1 or 2 fingers, valid sample or not, and stays for every other frame. -/
def Obligations.LastCountAtFrameCompletion : Prop :=
  ∀ (v : Byte) (s t : State), exec (.byteIn v) s = .next t → s.profile.valid = true →
    s.asm.cnt.val + 1 = s.profile.pktsize.toNat →
    t.gesture.lastCount =
      (if s.profile.gen = .g3 ∧ Decoded (wordIn (bufferWith v s)) ∧ fingersOf (wordIn (bufferWith v s)) ≠ 3
       then fingersOf (wordIn (bufferWith v s)) else s.gesture.lastCount)

/-- A BYTE_IN raises EV_VALID exactly when it completes a generation-3 Head or Tail frame of no finger, or of one finger
with a valid sample and a valid last point; otherwise the event port keeps its values (40_frame_assembly.md R74;
42_position_decoder.md R105, R106, R111, R113). -/
def Obligations.EventExactlyForMotionOrRelease : Prop :=
  ∀ (v : Byte) (s t : State), exec (.byteIn v) s = .next t →
    (t.event.valid = true ↔
      s.profile.valid = true ∧ s.asm.cnt.val + 1 = s.profile.pktsize.toNat ∧ s.profile.gen = .g3 ∧
      Decoded (wordIn (bufferWith v s)) ∧
      (fingersOf (wordIn (bufferWith v s)) = 0 ∨
        (fingersOf (wordIn (bufferWith v s)) = 1 ∧ s.gesture.lastValid = true ∧
          SampleValid s (xOf (wordIn (bufferWith v s))) (yrawOf (wordIn (bufferWith v s)))))) ∧
    (t.event.valid = false → t.event = ⟨false, s.event.dx, s.event.dy, s.event.buttons⟩)

/-- 42_position_decoder.md R100 and R102: decoded values are the exact integers, unclamped, in their ranges, and the
16-bit event port holds every delta exactly. -/
def Obligations.DecodedValuesAreExact : Prop :=
  (∀ ymax x yraw : BitVec 12,
    (decodeSample ymax x yraw).xInt = (x.toNat : Int) ∧ (x.toNat : Int) ≤ 4095 ∧
    (decodeSample ymax x yraw).yInt = (ymax.toNat : Int) - (yraw.toNat : Int) ∧
    -4095 ≤ (decodeSample ymax x yraw).yInt ∧ (decodeSample ymax x yraw).yInt ≤ 4095 ∧
    (ymax.toNat : Int) - 4095 ≤ (decodeSample ymax x yraw).yInt ∧
    (decodeSample ymax x yraw).yInt ≤ (ymax.toNat : Int) ∧
    ((decodeSample ymax x yraw).isValid = true ↔ x.toNat ≠ 0 ∧ (ymax.toNat : Int) - (yraw.toNat : Int) ≠ 0)) ∧
  (∀ ymax x yraw ymax' x' yraw' : BitVec 12,
    (decodeSample ymax x yraw).isValid = true → (decodeSample ymax' x' yraw').isValid = true →
    let dx := (decodeSample ymax x yraw).xInt - (decodeSample ymax' x' yraw').xInt
    let dy := (decodeSample ymax x yraw).yInt - (decodeSample ymax' x' yraw').yInt
    dx.natAbs ≤ 4094 ∧ dy.natAbs ≤ 8190 ∧ (ymax = ymax' → dy.natAbs ≤ 4095) ∧
    (BitVec.ofInt 16 dx).toInt = dx ∧ (BitVec.ofInt 16 dy).toInt = dy) ∧
  (∀ (i : Instr) (x yraw : BitVec 12) (b : BitVec 2) (s t : State), OneFingerRow i x yraw b → exec i s = .next t →
    SampleValid s x yraw → s.gesture.lastValid = true →
    t.event.dx.toInt = (x.toNat : Int) - (s.gesture.lastX.toNat : Int) ∧
    t.event.dy.toInt = invertedY s yraw - s.gesture.lastY.toInt)

/-- The event as the sink takes it is what emit was given, with the host's timestamp (42_position_decoder.md R111,
10_state.md R26); the timestamp's place as an argument is the model's (log 7). -/
def Obligations.SinkTakesEmittedEvent : Prop :=
  (∀ (dx dy : Int) (b : BitVec 2) (s : State) (ts : Nat), dx.natAbs ≤ 8190 → dy.natAbs ≤ 8190 →
    (emit dx dy b s).outboundEvent ts = some ⟨dx, dy, b, ts⟩) ∧
  (∀ (v : Byte) (s t : State) (ts : Nat), s.profile.valid = false → exec (.byteIn v) s = .next t →
    t.outboundEvent ts = none)

/-! ## The tap machine and the other generations -/

/-- 43_tap_gesture.md R133: no instruction but a full release or a load brings a disqualified slot back into range, frees
a start point or sets TAP_TO_CLICK; TAP_IN_RANGE rises only with the latch of a free slot. A BYTE_IN is a full release
only when it completes a generation-3 Head or Tail frame of no finger. -/
def Obligations.DisqualificationIsOneWay : Prop :=
  ∀ (i : Instr) (s t : State), exec i s = .next t →
    (∀ fw ymax o, i ≠ .cfgLoad fw ymax o) → (∀ f, i ≠ .v3HeadF0 f) → (∀ f, i ≠ .v3TailF0 f) →
    (∀ v, i = .byteIn v → s.profile.valid = true → s.asm.cnt.val + 1 = s.profile.pktsize.toNat →
      s.profile.gen = .g3 → Decoded (wordIn (bufferWith v s)) → fingersOf (wordIn (bufferWith v s)) ≠ 0) →
    (s.gesture.tapToClick = false → t.gesture.tapToClick = false) ∧
    (∀ k, (s.slot k).startValid = true → (t.slot k).startValid = true ∧
      (t.slot k).startX = (s.slot k).startX ∧ (t.slot k).startY = (s.slot k).startY ∧
      ((s.slot k).tapInRange = false → (t.slot k).tapInRange = false)) ∧
    (∀ k, (s.slot k).tapInRange = false → (t.slot k).tapInRange = true →
      (s.slot k).startValid = false ∧ (t.slot k).startValid = true)

/-- A contact sequence once disqualified gives no click at its release, whatever frames lie between
(43_tap_gesture.md R133, R134; 95_test_vectors.md S11). -/
def Obligations.DisqualifiedContactNeverClicks : Prop :=
  ∀ (l : List Instr) (s : State) (r : Instr) (buttons : BitVec 2), (∀ i ∈ l, keepsContact i = true) →
    s.gesture.tapToClick = false → ReleaseRow r buttons →
    ∃ t u, execAll l s = .next t ∧ exec r t = .next u ∧ u.event = ⟨true, 0, 0, buttons⟩

/-- 70_reset_and_hazards.md R176: two-finger frames leave the last point alone, so the first one-finger frame after them
moves by the difference to the last one-finger point before them. -/
def Obligations.LastPointSurvivesTwoFingers : Prop :=
  ∀ (l : List Instr) (s : State) (r : Instr) (x yraw : BitVec 12) (buttons : BitVec 2),
    (∀ i ∈ l, (∃ g, i = .v3HeadF2 g) ∨ ∃ g, i = .v3TailF2 g) → s.gesture.lastValid = true →
    OneFingerRow r x yraw buttons → SampleValid s x yraw →
    ∃ t u, execAll l s = .next t ∧ exec r t = .next u ∧
      t.gesture.lastValid = true ∧ t.gesture.lastX = s.gesture.lastX ∧ t.gesture.lastY = s.gesture.lastY ∧
      t.event = s.event ∧
      u.event = ⟨true, BitVec.ofInt 16 ((x.toNat : Int) - (s.gesture.lastX.toNat : Int)),
        BitVec.ofInt 16 (invertedY s yraw - s.gesture.lastY.toInt), buttons⟩

/-- A contact that starts after a release and stays within the threshold of its start point clicks left at its release,
however many frames it lasts (43_tap_gesture.md R136, with R131, R132, R134). -/
def Obligations.StationaryHoldStillClicks : Prop :=
  ∀ (s : State) (i0 : Instr) (l : List Instr) (r : Instr) (x yraw : BitVec 12) (b buttons : BitVec 2),
    s.slot0.startValid = false → s.slot1.startValid = false → s.gesture.tapToClick = true →
    OneFingerRow i0 x yraw b → SampleValid s x yraw →
    (∀ i ∈ l, NearOneFinger s (x.toNat : Int) (invertedY s yraw) i) → ReleaseRow r buttons →
    ∃ t u, execAll (i0 :: l) s = .next t ∧ exec r t = .next u ∧ u.event = ⟨true, 0, 0, buttons ||| 1⟩

/-- A byte under a profile of generation 1, 2 or 4 never changes a finger track, a gesture register or a diagnostic and
raises no event (41_classifier.md R88, R89, R91; 40_frame_assembly.md R74). -/
def Obligations.OtherGenerationsDecodeNothing : Prop :=
  ∀ (v : Byte) (s : State), s.profile.gen ≠ .g3 →
    ∃ t, exec (.byteIn v) s = .next t ∧ SameDecodeState s t ∧ t.diag = s.diag ∧
      t.event = ⟨false, s.event.dx, s.event.dy, s.event.buttons⟩

/-! ## Invariants -/

/-- The invariant holds after reset (70_reset_and_hazards.md R170), and in every state that differs from it at most in
unspecified registers, so the values of log 4 do not matter to it. -/
def Obligations.ResetHasInvariant : Prop :=
  State.reset.Inv ∧ ∀ s : State, State.reset.Alike s → s.Inv

/-- Every step keeps the invariant: the profile is the one its firmware derives, CNT is inside the frame, the tap flags
agree, the points are decoded points, LAST_COUNT is never 3, MALFORMED only with HEAD or TAIL, the event port holds a
possible delta, and only generation 3 decodes. Between a power transition and the reset after it the registers hold free
values, and the invariant claims nothing of them (log 19); after that reset it holds again, without a profile until the
CFG_LOAD (log 11). -/
def Obligations.StepKeepsInvariant : Prop :=
  ∀ s t : State, s.Inv → step s = .next t → t.Inv

/-- The registers the spec leaves unspecified influence nothing: two states that differ only in them step alike, to
states that differ only in them (00_scope.md R5, 70_reset_and_hazards.md R170). The premise is the invariant's first
clause (StepKeepsInvariant); after a power transition it is not needed (log 19). -/
def Obligations.UnspecifiedRegistersHaveNoInfluence : Prop :=
  ∀ s s' : State, (s.power.stage ≠ .lost → s.profile.consistent) → s.Alike s' →
    (∀ t, step s = .next t → ∃ t', step s' = .next t' ∧ t.Alike t') ∧
    (∀ r, step s = .fault r → step s' = .fault r)

/-! ## The open parameter of generation 1, and the end of a power transition -/

/-- 41_classifier.md R87 and 30_encoding.md R55: the layout of the parity fields for firmware below 0x020000 differs from
the layout for all other firmware. That nothing else of the firmware moves a position is the model's reading of R87
(log 5). -/
def Obligations.ParityLayoutsDiffer : Prop :=
  (∀ fw fw' : Firmware, fw.toNat < 0x020000 → 0x020000 ≤ fw'.toNat → parityPos fw ≠ parityPos fw') ∧
  (∀ fw fw' : Firmware, (fw.toNat < 0x020000 ↔ fw'.toNat < 0x020000) → parityPos fw = parityPos fw')

/-- 60_exceptions.md R159: what the host applies after a power transition, a reset and a new CFG_LOAD, brings the block
back: whatever the state was and whatever the free registers hold, every run over them and over bytes, loads and resets
after them completes. A byte before the CFG_LOAD stops the run (93_implementation_defined.md section 1); that it stops by a
fault is the model's (log 11). -/
def Obligations.ResetAndLoadEndPowerTransition : Prop :=
  (∀ (n : Nat) (s : State) (c : ConfigWord) (rest : List Transaction),
    s.inputs = .powerTransition :: .reset :: .portCfg c :: rest → powerStays rest → ∃ t, core.run n s = .next t) ∧
  (∀ (n : Nat) (s : State) (v : Byte) (rest : List Transaction),
    s.inputs = .powerTransition :: .reset :: .port8 v :: rest →
    core.run (n + 3) s = .fault .noLoadSincePowerTransition)

end Statements
end

