-- ==== Sys2Proof/Laws/Encoding.lean ====
section
/-!
SUPPORT. Words and bytes as numbers. Every word-building function is a sum of its parts and every field a quotient and a
remainder, so facts about encodings become linear arithmetic.
-/

namespace Sys2Proof

/-! ## Concatenation and fields as numbers -/

theorem toNat_append_add {a b : Nat} (x : BitVec a) (y : BitVec b) :
    (x ++ y).toNat = x.toNat * 2 ^ b + y.toNat := by
  rw [BitVec.toNat_append, ← Nat.shiftLeft_add_eq_or_of_lt y.isLt, Nat.shiftLeft_eq]

theorem toNat_extractLsb'_div {a : Nat} (s l : Nat) (x : BitVec a) :
    (x.extractLsb' s l).toNat = x.toNat / 2 ^ s % 2 ^ l := by
  rw [BitVec.extractLsb'_toNat, Nat.shiftRight_eq_div_pow]

theorem frameByte_toNat (w : FrameWord) (k : Nat) : (frameByte w k).toNat = w.toNat / 2 ^ (8 * (5 - k)) % 2 ^ 8 :=
  toNat_extractLsb'_div _ _ _

theorem shortFrameByte_toNat (w : ShortFrameWord) (k : Nat) :
    (shortFrameByte w k).toNat = w.toNat / 2 ^ (8 * (3 - k)) % 2 ^ 8 :=
  toNat_extractLsb'_div _ _ _

theorem frameWord_toNat (b0 b1 b2 b3 b4 b5 : Byte) :
    (frameWord b0 b1 b2 b3 b4 b5).toNat =
      b0.toNat * 2 ^ 40 + b1.toNat * 2 ^ 32 + b2.toNat * 2 ^ 24 + b3.toNat * 2 ^ 16 + b4.toNat * 2 ^ 8 +
        b5.toNat := by
  change (b0 ++ b1 ++ b2 ++ b3 ++ b4 ++ b5).toNat = _
  simp only [toNat_append_add]
  omega

theorem shortFrameWord_toNat (b0 b1 b2 b3 : Byte) :
    (shortFrameWord b0 b1 b2 b3).toNat =
      b0.toNat * 2 ^ 24 + b1.toNat * 2 ^ 16 + b2.toNat * 2 ^ 8 + b3.toNat := by
  change (b0 ++ b1 ++ b2 ++ b3).toNat = _
  simp only [toNat_append_add]
  omega

theorem headWord_toNat (n : BitVec 2) (f : HeadFields) :
    (headWord n f).toNat =
      n.toNat * 2 ^ 46 + f.u0.toNat * 2 ^ 44 + 2 ^ 42 + f.buttons.toNat * 2 ^ 40 + f.u1.toNat * 2 ^ 36 +
        f.x.toNat * 2 ^ 24 + f.u3.toNat * 2 ^ 20 + 2 ^ 17 + f.u4.toNat * 2 ^ 12 + f.yraw.toNat := by
  change (n ++ f.u0 ++ 0b01#2 ++ f.buttons ++ f.u1 ++ f.x ++ 0b00#2 ++ f.u3 ++ 0b0010#4 ++ f.u4 ++ f.yraw).toNat = _
  simp only [toNat_append_add, BitVec.toNat_ofNat]
  omega

theorem tailWord_toNat (n : BitVec 2) (f : TailFields) :
    (tailWord n f).toNat =
      n.toNat * 2 ^ 46 + f.u0.toNat * 2 ^ 44 + 3 * 2 ^ 42 + f.buttons.toNat * 2 ^ 40 + f.u1.toNat * 2 ^ 36 +
        f.x.toNat * 2 ^ 24 + f.u3.toNat * 2 ^ 20 + 6 * 2 ^ 17 + f.u3low.toNat * 2 ^ 16 + f.u4.toNat * 2 ^ 12 +
        f.yraw.toNat := by
  change (n ++ f.u0 ++ 0b11#2 ++ f.buttons ++ f.u1 ++ f.x ++ 0b00#2 ++ f.u3 ++ 0b110#3 ++ f.u3low ++ f.u4 ++
    f.yraw).toNat = _
  simp only [toNat_append_add, BitVec.toNat_ofNat]
  omega

theorem configWord_toNat (fw : Firmware) (ymax : BitVec 12) (o : ParityOverride) :
    (configWord fw ymax o).toNat =
      fw.toNat * 2 ^ 13 + ymax.toNat * 2 + (match o with | .absent => 0 | .forceZero => 1) := by
  cases o with
  | absent =>
    change (fw ++ ymax ++ 0#1).toNat = _
    simp only [toNat_append_add, BitVec.toNat_ofNat]
    omega
  | forceZero =>
    change (fw ++ ymax ++ 1#1).toNat = _
    simp only [toNat_append_add, BitVec.toNat_ofNat]
    omega

/-! ## A frame word and its bytes determine each other -/

theorem frameWord_frameBytes (w : FrameWord) :
    frameWord (frameByte w 0) (frameByte w 1) (frameByte w 2) (frameByte w 3) (frameByte w 4) (frameByte w 5) = w := by
  apply BitVec.eq_of_toNat_eq
  have := w.isLt
  simp only [frameWord_toNat, frameByte_toNat]
  omega

theorem shortFrameWord_shortFrameBytes (w : ShortFrameWord) :
    shortFrameWord (shortFrameByte w 0) (shortFrameByte w 1) (shortFrameByte w 2) (shortFrameByte w 3) = w := by
  apply BitVec.eq_of_toNat_eq
  have := w.isLt
  simp only [shortFrameWord_toNat, shortFrameByte_toNat]
  omega

theorem frameByte_frameWord (b0 b1 b2 b3 b4 b5 : Byte) (k : Nat) (hk : k < 6) :
    frameByte (frameWord b0 b1 b2 b3 b4 b5) k = [b0, b1, b2, b3, b4, b5][k] := by
  apply BitVec.eq_of_toNat_eq
  have := b0.isLt; have := b1.isLt; have := b2.isLt; have := b3.isLt; have := b4.isLt; have := b5.isLt
  rw [frameByte_toNat, frameWord_toNat]
  interval_cases k <;> simp <;> omega

theorem shortFrameByte_shortFrameWord (b0 b1 b2 b3 : Byte) (k : Nat) (hk : k < 4) :
    shortFrameByte (shortFrameWord b0 b1 b2 b3) k = [b0, b1, b2, b3][k] := by
  apply BitVec.eq_of_toNat_eq
  have := b0.isLt; have := b1.isLt; have := b2.isLt; have := b3.isLt
  rw [shortFrameByte_toNat, shortFrameWord_toNat]
  interval_cases k <;> simp <;> omega

/-! ## The class of a frame word, as a number -/

/-- Head by the bits it fixes: B0[3:2] = 01, B3[7:6] = 00, B3[3:0] = 0010 (30_encoding.md R51). -/
def headBits (w : Nat) : Prop := w / 2 ^ 42 % 4 = 1 ∧ w / 2 ^ 22 % 4 = 0 ∧ w / 2 ^ 16 % 16 = 2

/-- Tail by the bits it fixes: B0[3:2] = 11, B3[7:6] = 00, B3[3:1] = 110 (30_encoding.md R51). -/
def tailBits (w : Nat) : Prop := w / 2 ^ 42 % 4 = 3 ∧ w / 2 ^ 22 % 4 = 0 ∧ w / 2 ^ 17 % 8 = 6

set_option maxRecDepth 4000 in
theorem byte_mask_0C (b : Byte) : (b &&& 0x0C).toNat = b.toNat / 4 % 4 * 4 := by revert b; decide

set_option maxRecDepth 4000 in
theorem byte_mask_CF (b : Byte) : (b &&& 0xCF).toNat = b.toNat / 64 % 4 * 64 + b.toNat % 16 := by revert b; decide

set_option maxRecDepth 4000 in
theorem byte_mask_CE (b : Byte) : (b &&& 0xCE).toNat = b.toNat / 64 % 4 * 64 + b.toNat / 2 % 8 * 2 := by
  revert b; decide

/-- The Debounce test on the bytes is equality with the Debounce word. -/
theorem debounce_bytes_iff (w : FrameWord) :
    (frameByte w 0 = 0xC4 ∧ frameByte w 1 = 0xFF ∧ frameByte w 2 = 0xFF ∧ frameByte w 3 = 0x02 ∧
      frameByte w 4 = 0xFF ∧ frameByte w 5 = 0xFF) ↔ w.toNat = debounceWord.toNat := by
  have hd : debounceWord.toNat = 0xC4FFFF02FFFF := rfl
  have := w.isLt
  simp only [← BitVec.toNat_inj, frameByte_toNat, hd, BitVec.reduceToNat]
  omega

theorem head_bytes_iff (w : FrameWord) :
    (frameByte w 0 &&& 0x0C = 0x04 ∧ frameByte w 3 &&& 0xCF = 0x02) ↔ headBits w.toNat := by
  simp only [← BitVec.toNat_inj, byte_mask_0C, byte_mask_CF, frameByte_toNat, BitVec.reduceToNat, headBits]
  omega

theorem tail_bytes_iff (w : FrameWord) :
    (frameByte w 0 &&& 0x0C = 0x0C ∧ frameByte w 3 &&& 0xCE = 0x0C) ↔ tailBits w.toNat := by
  simp only [← BitVec.toNat_inj, byte_mask_0C, byte_mask_CE, frameByte_toNat, BitVec.reduceToNat, tailBits]
  omega

theorem classifyV3_eq_debounce_iff (w : FrameWord) : classifyV3 w = .debounce ↔ w.toNat = debounceWord.toNat := by
  rw [← debounce_bytes_iff, classifyV3]
  split_ifs <;> simp_all

theorem classifyV3_eq_head_iff (w : FrameWord) :
    classifyV3 w = .head ↔ headBits w.toNat ∧ ¬ w.toNat = debounceWord.toNat := by
  rw [← head_bytes_iff, ← debounce_bytes_iff, classifyV3]
  split_ifs <;> simp_all

theorem classifyV3_eq_tail_iff (w : FrameWord) : classifyV3 w = .tail ↔ tailBits w.toNat := by
  have hd : debounceWord.toNat = 0xC4FFFF02FFFF := rfl
  have disjoint : tailBits w.toNat → w.toNat ≠ debounceWord.toNat ∧ ¬ headBits w.toNat := by
    simp only [hd, headBits, tailBits]; omega
  rw [Ne, ← debounce_bytes_iff, ← head_bytes_iff, ← tail_bytes_iff] at disjoint
  rw [← tail_bytes_iff, classifyV3]
  split_ifs <;> simp_all

/-! ## Fields of an encoded word -/

theorem fingersOf_toNat (w : FrameWord) : (fingersOf w).toNat = w.toNat / 2 ^ 46 % 4 := by
  simp only [fingersOf, toNat_extractLsb'_div, frameByte_toNat]
  omega

theorem fingersOf_headWord (n : BitVec 2) (f : HeadFields) : fingersOf (headWord n f) = n := by
  cases f with | mk u0 b u1 x u3 u4 y
  apply BitVec.eq_of_toNat_eq
  have := n.isLt; have := u0.isLt; have := b.isLt; have := u1.isLt; have := x.isLt; have := u3.isLt
  have := u4.isLt; have := y.isLt
  rw [fingersOf_toNat, headWord_toNat]
  dsimp only
  omega

theorem fingersOf_tailWord (n : BitVec 2) (f : TailFields) : fingersOf (tailWord n f) = n := by
  cases f with | mk u0 b u1 x u3 u3low u4 y
  apply BitVec.eq_of_toNat_eq
  have := n.isLt; have := u0.isLt; have := b.isLt; have := u1.isLt; have := x.isLt; have := u3.isLt
  have := u3low.isLt; have := u4.isLt; have := y.isLt
  rw [fingersOf_toNat, tailWord_toNat]
  dsimp only
  omega

theorem headFields_headWord (n : BitVec 2) (f : HeadFields) : headFields (headWord n f) = f := by
  cases f with | mk u0 b u1 x u3 u4 y
  have := n.isLt; have := u0.isLt; have := b.isLt; have := u1.isLt; have := x.isLt; have := u3.isLt
  have := u4.isLt; have := y.isLt
  simp only [headFields, HeadFields.mk.injEq, buttonsOf, xOf, yrawOf]
  refine ⟨?_, ?_, ?_, ?_, ?_, ?_, ?_⟩ <;> apply BitVec.eq_of_toNat_eq <;>
    simp only [toNat_append_add, toNat_extractLsb'_div, frameByte_toNat, headWord_toNat] <;> omega

/-- The fields of bytes 0 to 2 of a Tail word. -/
theorem tailWord_fields_high (n : BitVec 2) (f : TailFields) :
    (frameByte (tailWord n f) 0).extractLsb' 4 2 = f.u0 ∧ buttonsOf (tailWord n f) = f.buttons ∧
    (frameByte (tailWord n f) 1).extractLsb' 4 4 = f.u1 ∧ xOf (tailWord n f) = f.x := by
  cases f with | mk u0 b u1 x u3 u3low u4 y
  have := n.isLt; have := u0.isLt; have := b.isLt; have := u1.isLt; have := x.isLt; have := u3.isLt
  have := u3low.isLt; have := u4.isLt; have := y.isLt
  refine ⟨?_, ?_, ?_, ?_⟩ <;> apply BitVec.eq_of_toNat_eq <;>
    simp only [buttonsOf, xOf, toNat_append_add, toNat_extractLsb'_div, frameByte_toNat, tailWord_toNat] <;> omega

/-- Bytes 3 to 5 of a Tail word as numbers. -/
theorem tailWord_bytes_low (n : BitVec 2) (f : TailFields) :
    (frameByte (tailWord n f) 3).toNat = f.u3.toNat * 16 + 12 + f.u3low.toNat ∧
    (frameByte (tailWord n f) 4).toNat = f.u4.toNat * 16 + f.yraw.toNat / 256 ∧
    (frameByte (tailWord n f) 5).toNat = f.yraw.toNat % 256 := by
  cases f with | mk u0 b u1 x u3 u3low u4 y
  have := u3.isLt; have := u3low.isLt; have := u4.isLt; have := y.isLt
  simp only [frameByte_toNat, tailWord_toNat]
  omega

/-- The fields of bytes 3 to 5 of a Tail word. -/
theorem tailWord_fields_low (n : BitVec 2) (f : TailFields) :
    (frameByte (tailWord n f) 3).extractLsb' 4 2 = f.u3 ∧ (frameByte (tailWord n f) 3).extractLsb' 0 1 = f.u3low ∧
    (frameByte (tailWord n f) 4).extractLsb' 4 4 = f.u4 ∧ yrawOf (tailWord n f) = f.yraw := by
  obtain ⟨h3, h4, h5⟩ := tailWord_bytes_low n f
  have := f.u3.isLt; have := f.u3low.isLt; have := f.u4.isLt; have := f.yraw.isLt
  refine ⟨?_, ?_, ?_, ?_⟩ <;> apply BitVec.eq_of_toNat_eq <;>
    simp only [yrawOf, toNat_append_add, toNat_extractLsb'_div, h3, h4, h5] <;> omega

theorem tailFields_tailWord (n : BitVec 2) (f : TailFields) : tailFields (tailWord n f) = f := by
  obtain ⟨h0, h1, h2, h3⟩ := tailWord_fields_high n f
  obtain ⟨l0, l1, l2, l3⟩ := tailWord_fields_low n f
  simp only [tailFields, h0, h1, h2, h3, l0, l1, l2, l3]

/-- A frame word is the sum of its bytes. -/
theorem toNat_eq_frameBytes (w : FrameWord) :
    w.toNat = (frameByte w 0).toNat * 2 ^ 40 + (frameByte w 1).toNat * 2 ^ 32 + (frameByte w 2).toNat * 2 ^ 24 +
      (frameByte w 3).toNat * 2 ^ 16 + (frameByte w 4).toNat * 2 ^ 8 + (frameByte w 5).toNat := by
  rw [← frameWord_toNat, frameWord_frameBytes]

/-- The Head bits, read on bytes 0 and 3. -/
theorem headBits_iff_bytes (w : FrameWord) :
    headBits w.toNat ↔ (frameByte w 0).toNat / 4 % 4 = 1 ∧ (frameByte w 3).toNat / 64 = 0 ∧
      (frameByte w 3).toNat % 16 = 2 := by
  simp only [headBits, frameByte_toNat]
  omega

/-- The Tail bits, read on bytes 0 and 3. -/
theorem tailBits_iff_bytes (w : FrameWord) :
    tailBits w.toNat ↔ (frameByte w 0).toNat / 4 % 4 = 3 ∧ (frameByte w 3).toNat / 64 = 0 ∧
      (frameByte w 3).toNat / 2 % 8 = 6 := by
  simp only [tailBits, frameByte_toNat]
  omega

/-- Byte 0 from its fields. -/
theorem byte0_fields (b : Byte) :
    b.toNat = (b.extractLsb' 6 2).toNat * 64 + (b.extractLsb' 4 2).toNat * 16 + b.toNat / 4 % 4 * 4 +
      (b.extractLsb' 0 2).toNat := by
  have := b.isLt
  simp only [toNat_extractLsb'_div]
  omega

/-- A 12-bit field and the nibble beside it, from the two bytes that hold them. -/
theorem nibble_field (a b : Byte) :
    (a.extractLsb' 4 4).toNat * 2 ^ 12 + ((a.extractLsb' 0 4 ++ b : BitVec 12)).toNat = a.toNat * 2 ^ 8 + b.toNat := by
  have h : (a.extractLsb' 0 4 ++ b : BitVec 12).toNat = (a.extractLsb' 0 4 ++ b).toNat := rfl
  have := a.isLt
  rw [h]
  simp only [toNat_append_add, toNat_extractLsb'_div]
  omega

/-- A word with the Head bits is the Head word of its finger count and fields. -/
theorem headWord_headFields (w : FrameWord) (h : headBits w.toNat) : headWord (fingersOf w) (headFields w) = w := by
  apply BitVec.eq_of_toNat_eq
  obtain ⟨h0, h3, h3'⟩ := (headBits_iff_bytes w).1 h
  have e0 := byte0_fields (frameByte w 0)
  have e12 := nibble_field (frameByte w 1) (frameByte w 2)
  have e45 := nibble_field (frameByte w 4) (frameByte w 5)
  have e3 : (frameByte w 3).toNat = ((frameByte w 3).extractLsb' 4 2).toNat * 16 + 2 := by
    have := (frameByte w 3).isLt
    rw [toNat_extractLsb'_div]
    omega
  rw [headWord_toNat, toNat_eq_frameBytes w]
  simp only [headFields, buttonsOf, xOf, yrawOf, fingersOf]
  generalize frameByte w 0 = b0, frameByte w 1 = b1, frameByte w 2 = b2, frameByte w 3 = b3, frameByte w 4 = b4,
    frameByte w 5 = b5 at *
  rw [h0] at e0
  linarith

/-- A word with the Tail bits is the Tail word of its finger count and fields. -/
theorem tailWord_tailFields (w : FrameWord) (h : tailBits w.toNat) : tailWord (fingersOf w) (tailFields w) = w := by
  apply BitVec.eq_of_toNat_eq
  obtain ⟨h0, h3, h3'⟩ := (tailBits_iff_bytes w).1 h
  have e0 := byte0_fields (frameByte w 0)
  have e12 := nibble_field (frameByte w 1) (frameByte w 2)
  have e45 := nibble_field (frameByte w 4) (frameByte w 5)
  have e3 : (frameByte w 3).toNat =
      ((frameByte w 3).extractLsb' 4 2).toNat * 16 + 12 + ((frameByte w 3).extractLsb' 0 1).toNat := by
    have := (frameByte w 3).isLt
    simp only [toNat_extractLsb'_div]
    omega
  rw [tailWord_toNat, toNat_eq_frameBytes w]
  simp only [tailFields, buttonsOf, xOf, yrawOf, fingersOf]
  generalize frameByte w 0 = b0, frameByte w 1 = b1, frameByte w 2 = b2, frameByte w 3 = b3, frameByte w 4 = b4,
    frameByte w 5 = b5 at *
  rw [h0] at e0
  linarith

theorem headBits_headWord (n : BitVec 2) (f : HeadFields) : headBits (headWord n f).toNat := by
  cases f with | mk u0 b u1 x u3 u4 y
  have := n.isLt; have := u0.isLt; have := b.isLt; have := u1.isLt; have := x.isLt; have := u3.isLt
  have := u4.isLt; have := y.isLt
  rw [headBits, headWord_toNat]
  dsimp only
  omega

theorem tailBits_tailWord (n : BitVec 2) (f : TailFields) : tailBits (tailWord n f).toNat := by
  cases f with | mk u0 b u1 x u3 u3low u4 y
  have := n.isLt; have := u0.isLt; have := b.isLt; have := u1.isLt; have := x.isLt; have := u3.isLt
  have := u3low.isLt; have := u4.isLt; have := y.isLt
  rw [tailBits, tailWord_toNat]
  dsimp only
  omega

/-- Among the Head words only the three-finger one of `HeadFields.debounce` is the Debounce word. -/
theorem headWord_eq_debounceWord_iff (n : BitVec 2) (f : HeadFields) :
    (headWord n f).toNat = debounceWord.toNat ↔ n = 3 ∧ f = HeadFields.debounce := by
  constructor
  · intro h
    have hw : headWord n f = debounceWord := BitVec.eq_of_toNat_eq h
    have hn := fingersOf_headWord n f
    have hf := headFields_headWord n f
    rw [hw] at hn hf
    exact ⟨hn ▸ by decide, hf ▸ by decide⟩
  · rintro ⟨rfl, rfl⟩
    decide

end Sys2Proof
end

