-- ==== Sys2Proof/Laws/State.lean ====
section
/-!
SUPPORT. One lemma per group of registers and named update: what the update leaves, and what it writes. Later proofs use
these and unfold no record update.
-/

namespace Sys2Proof.Machine

/-! ## setProfile -/

@[simp] theorem State.setProfile_profile (s : State) (p : Profile) : (s.setProfile p).profile = p := rfl
@[simp] theorem State.setProfile_asm (s : State) (p : Profile) : (s.setProfile p).asm = s.asm := rfl
@[simp] theorem State.setProfile_slot0 (s : State) (p : Profile) : (s.setProfile p).slot0 = s.slot0 := rfl
@[simp] theorem State.setProfile_slot1 (s : State) (p : Profile) : (s.setProfile p).slot1 = s.slot1 := rfl
@[simp] theorem State.setProfile_gesture (s : State) (p : Profile) : (s.setProfile p).gesture = s.gesture := rfl
@[simp] theorem State.setProfile_status (s : State) (p : Profile) : (s.setProfile p).status = s.status := rfl
@[simp] theorem State.setProfile_event (s : State) (p : Profile) : (s.setProfile p).event = s.event := rfl
@[simp] theorem State.setProfile_diag (s : State) (p : Profile) : (s.setProfile p).diag = s.diag := rfl
@[simp] theorem State.setProfile_inputs (s : State) (p : Profile) : (s.setProfile p).inputs = s.inputs := rfl
@[simp] theorem State.setProfile_power (s : State) (p : Profile) : (s.setProfile p).power = s.power := rfl

/-! ## setAssembler -/

@[simp] theorem State.setAssembler_profile (s : State) (a : Assembler) : (s.setAssembler a).profile = s.profile := rfl
@[simp] theorem State.setAssembler_asm (s : State) (a : Assembler) : (s.setAssembler a).asm = a := rfl
@[simp] theorem State.setAssembler_slot0 (s : State) (a : Assembler) : (s.setAssembler a).slot0 = s.slot0 := rfl
@[simp] theorem State.setAssembler_slot1 (s : State) (a : Assembler) : (s.setAssembler a).slot1 = s.slot1 := rfl
@[simp] theorem State.setAssembler_gesture (s : State) (a : Assembler) : (s.setAssembler a).gesture = s.gesture := rfl
@[simp] theorem State.setAssembler_status (s : State) (a : Assembler) : (s.setAssembler a).status = s.status := rfl
@[simp] theorem State.setAssembler_event (s : State) (a : Assembler) : (s.setAssembler a).event = s.event := rfl
@[simp] theorem State.setAssembler_diag (s : State) (a : Assembler) : (s.setAssembler a).diag = s.diag := rfl
@[simp] theorem State.setAssembler_inputs (s : State) (a : Assembler) : (s.setAssembler a).inputs = s.inputs := rfl
@[simp] theorem State.setAssembler_power (s : State) (a : Assembler) :
    (s.setAssembler a).power = s.power := rfl

/-! ## setGesture -/

@[simp] theorem State.setGesture_profile (s : State) (g : Gesture) : (s.setGesture g).profile = s.profile := rfl
@[simp] theorem State.setGesture_asm (s : State) (g : Gesture) : (s.setGesture g).asm = s.asm := rfl
@[simp] theorem State.setGesture_slot0 (s : State) (g : Gesture) : (s.setGesture g).slot0 = s.slot0 := rfl
@[simp] theorem State.setGesture_slot1 (s : State) (g : Gesture) : (s.setGesture g).slot1 = s.slot1 := rfl
@[simp] theorem State.setGesture_gesture (s : State) (g : Gesture) : (s.setGesture g).gesture = g := rfl
@[simp] theorem State.setGesture_status (s : State) (g : Gesture) : (s.setGesture g).status = s.status := rfl
@[simp] theorem State.setGesture_event (s : State) (g : Gesture) : (s.setGesture g).event = s.event := rfl
@[simp] theorem State.setGesture_diag (s : State) (g : Gesture) : (s.setGesture g).diag = s.diag := rfl
@[simp] theorem State.setGesture_inputs (s : State) (g : Gesture) : (s.setGesture g).inputs = s.inputs := rfl
@[simp] theorem State.setGesture_power (s : State) (g : Gesture) : (s.setGesture g).power = s.power := rfl

/-! ## setInputs -/

@[simp] theorem State.setInputs_profile (s : State) (l : List Transaction) :
    (s.setInputs l).profile = s.profile := rfl
@[simp] theorem State.setInputs_asm (s : State) (l : List Transaction) : (s.setInputs l).asm = s.asm := rfl
@[simp] theorem State.setInputs_slot0 (s : State) (l : List Transaction) : (s.setInputs l).slot0 = s.slot0 := rfl
@[simp] theorem State.setInputs_slot1 (s : State) (l : List Transaction) : (s.setInputs l).slot1 = s.slot1 := rfl
@[simp] theorem State.setInputs_gesture (s : State) (l : List Transaction) :
    (s.setInputs l).gesture = s.gesture := rfl
@[simp] theorem State.setInputs_status (s : State) (l : List Transaction) : (s.setInputs l).status = s.status := rfl
@[simp] theorem State.setInputs_event (s : State) (l : List Transaction) : (s.setInputs l).event = s.event := rfl
@[simp] theorem State.setInputs_diag (s : State) (l : List Transaction) : (s.setInputs l).diag = s.diag := rfl
@[simp] theorem State.setInputs_inputs (s : State) (l : List Transaction) : (s.setInputs l).inputs = l := rfl
@[simp] theorem State.setInputs_power (s : State) (l : List Transaction) :
    (s.setInputs l).power = s.power := rfl

/-! ## beginFrame -/

@[simp] theorem beginFrame_profile (v : Verdict) (s : State) : (beginFrame v s).profile = s.profile := rfl
@[simp] theorem beginFrame_asm (v : Verdict) (s : State) : (beginFrame v s).asm = s.asm := rfl
@[simp] theorem beginFrame_slot0 (v : Verdict) (s : State) : (beginFrame v s).slot0 = s.slot0 := rfl
@[simp] theorem beginFrame_slot1 (v : Verdict) (s : State) : (beginFrame v s).slot1 = s.slot1 := rfl
@[simp] theorem beginFrame_gesture (v : Verdict) (s : State) : (beginFrame v s).gesture = s.gesture := rfl
@[simp] theorem beginFrame_status (v : Verdict) (s : State) : (beginFrame v s).status = ⟨v, false⟩ := rfl
@[simp] theorem beginFrame_event (v : Verdict) (s : State) : (beginFrame v s).event = s.event := rfl
@[simp] theorem beginFrame_diag (v : Verdict) (s : State) : (beginFrame v s).diag = s.diag := rfl
@[simp] theorem beginFrame_inputs (v : Verdict) (s : State) : (beginFrame v s).inputs = s.inputs := rfl
@[simp] theorem beginFrame_power (v : Verdict) (s : State) : (beginFrame v s).power = s.power := rfl

/-! ## markMalformed -/

@[simp] theorem markMalformed_profile (s : State) : (markMalformed s).profile = s.profile := rfl
@[simp] theorem markMalformed_asm (s : State) : (markMalformed s).asm = s.asm := rfl
@[simp] theorem markMalformed_slot0 (s : State) : (markMalformed s).slot0 = s.slot0 := rfl
@[simp] theorem markMalformed_slot1 (s : State) : (markMalformed s).slot1 = s.slot1 := rfl
@[simp] theorem markMalformed_gesture (s : State) : (markMalformed s).gesture = s.gesture := rfl
@[simp] theorem markMalformed_status (s : State) : (markMalformed s).status = ⟨s.status.verdict, true⟩ := rfl
@[simp] theorem markMalformed_event (s : State) : (markMalformed s).event = s.event := rfl
@[simp] theorem markMalformed_diag (s : State) : (markMalformed s).diag = s.diag := rfl
@[simp] theorem markMalformed_inputs (s : State) : (markMalformed s).inputs = s.inputs := rfl
@[simp] theorem markMalformed_power (s : State) : (markMalformed s).power = s.power := rfl

/-! ## clearStrobe -/

@[simp] theorem clearStrobe_profile (s : State) : (clearStrobe s).profile = s.profile := rfl
@[simp] theorem clearStrobe_asm (s : State) : (clearStrobe s).asm = s.asm := rfl
@[simp] theorem clearStrobe_slot0 (s : State) : (clearStrobe s).slot0 = s.slot0 := rfl
@[simp] theorem clearStrobe_slot1 (s : State) : (clearStrobe s).slot1 = s.slot1 := rfl
@[simp] theorem clearStrobe_gesture (s : State) : (clearStrobe s).gesture = s.gesture := rfl
@[simp] theorem clearStrobe_status (s : State) : (clearStrobe s).status = s.status := rfl
@[simp] theorem clearStrobe_event (s : State) :
    (clearStrobe s).event = ⟨false, s.event.dx, s.event.dy, s.event.buttons⟩ := rfl
@[simp] theorem clearStrobe_diag (s : State) : (clearStrobe s).diag = s.diag := rfl
@[simp] theorem clearStrobe_inputs (s : State) : (clearStrobe s).inputs = s.inputs := rfl
@[simp] theorem clearStrobe_power (s : State) : (clearStrobe s).power = s.power := rfl

/-! ## writeDiagnostics -/

@[simp] theorem writeDiagnostics_profile (w : FrameWord) (s : State) :
    (writeDiagnostics w s).profile = s.profile := rfl
@[simp] theorem writeDiagnostics_asm (w : FrameWord) (s : State) : (writeDiagnostics w s).asm = s.asm := rfl
@[simp] theorem writeDiagnostics_slot0 (w : FrameWord) (s : State) : (writeDiagnostics w s).slot0 = s.slot0 := rfl
@[simp] theorem writeDiagnostics_slot1 (w : FrameWord) (s : State) : (writeDiagnostics w s).slot1 = s.slot1 := rfl
@[simp] theorem writeDiagnostics_gesture (w : FrameWord) (s : State) :
    (writeDiagnostics w s).gesture = s.gesture := rfl
@[simp] theorem writeDiagnostics_status (w : FrameWord) (s : State) : (writeDiagnostics w s).status = s.status := rfl
@[simp] theorem writeDiagnostics_event (w : FrameWord) (s : State) : (writeDiagnostics w s).event = s.event := rfl
@[simp] theorem writeDiagnostics_diag (w : FrameWord) (s : State) :
    (writeDiagnostics w s).diag = ⟨(Config.pressureWidth w).pressure, (Config.pressureWidth w).width⟩ := rfl
@[simp] theorem writeDiagnostics_inputs (w : FrameWord) (s : State) : (writeDiagnostics w s).inputs = s.inputs := rfl
@[simp] theorem writeDiagnostics_power (w : FrameWord) (s : State) :
    (writeDiagnostics w s).power = s.power := rfl

/-! ## emit -/

@[simp] theorem emit_profile (dx dy : Int) (b : BitVec 2) (s : State) : (emit dx dy b s).profile = s.profile := rfl
@[simp] theorem emit_asm (dx dy : Int) (b : BitVec 2) (s : State) : (emit dx dy b s).asm = s.asm := rfl
@[simp] theorem emit_slot0 (dx dy : Int) (b : BitVec 2) (s : State) : (emit dx dy b s).slot0 = s.slot0 := rfl
@[simp] theorem emit_slot1 (dx dy : Int) (b : BitVec 2) (s : State) : (emit dx dy b s).slot1 = s.slot1 := rfl
@[simp] theorem emit_gesture (dx dy : Int) (b : BitVec 2) (s : State) : (emit dx dy b s).gesture = s.gesture := rfl
@[simp] theorem emit_status (dx dy : Int) (b : BitVec 2) (s : State) : (emit dx dy b s).status = s.status := rfl
@[simp] theorem emit_event (dx dy : Int) (b : BitVec 2) (s : State) :
    (emit dx dy b s).event = ⟨true, BitVec.ofInt 16 dx, BitVec.ofInt 16 dy, b⟩ := rfl
@[simp] theorem emit_diag (dx dy : Int) (b : BitVec 2) (s : State) : (emit dx dy b s).diag = s.diag := rfl
@[simp] theorem emit_inputs (dx dy : Int) (b : BitVec 2) (s : State) : (emit dx dy b s).inputs = s.inputs := rfl
@[simp] theorem emit_power (dx dy : Int) (b : BitVec 2) (s : State) :
    (emit dx dy b s).power = s.power := rfl

/-! ## setLastCount -/

@[simp] theorem setLastCount_profile (n : BitVec 2) (s : State) : (setLastCount n s).profile = s.profile := rfl
@[simp] theorem setLastCount_asm (n : BitVec 2) (s : State) : (setLastCount n s).asm = s.asm := rfl
@[simp] theorem setLastCount_slot0 (n : BitVec 2) (s : State) : (setLastCount n s).slot0 = s.slot0 := rfl
@[simp] theorem setLastCount_slot1 (n : BitVec 2) (s : State) : (setLastCount n s).slot1 = s.slot1 := rfl
@[simp] theorem setLastCount_gesture (n : BitVec 2) (s : State) :
    (setLastCount n s).gesture = { s.gesture with lastCount := n } := rfl
@[simp] theorem setLastCount_status (n : BitVec 2) (s : State) : (setLastCount n s).status = s.status := rfl
@[simp] theorem setLastCount_event (n : BitVec 2) (s : State) : (setLastCount n s).event = s.event := rfl
@[simp] theorem setLastCount_diag (n : BitVec 2) (s : State) : (setLastCount n s).diag = s.diag := rfl
@[simp] theorem setLastCount_inputs (n : BitVec 2) (s : State) : (setLastCount n s).inputs = s.inputs := rfl
@[simp] theorem setLastCount_power (n : BitVec 2) (s : State) : (setLastCount n s).power = s.power := rfl

/-! ## setLast -/

@[simp] theorem setLast_profile (p : Point) (s : State) : (setLast p s).profile = s.profile := rfl
@[simp] theorem setLast_asm (p : Point) (s : State) : (setLast p s).asm = s.asm := rfl
@[simp] theorem setLast_slot0 (p : Point) (s : State) : (setLast p s).slot0 = s.slot0 := rfl
@[simp] theorem setLast_slot1 (p : Point) (s : State) : (setLast p s).slot1 = s.slot1 := rfl
@[simp] theorem setLast_gesture (p : Point) (s : State) :
    (setLast p s).gesture = { s.gesture with lastValid := true, lastX := p.x, lastY := p.y } := rfl
@[simp] theorem setLast_status (p : Point) (s : State) : (setLast p s).status = s.status := rfl
@[simp] theorem setLast_event (p : Point) (s : State) : (setLast p s).event = s.event := rfl
@[simp] theorem setLast_diag (p : Point) (s : State) : (setLast p s).diag = s.diag := rfl
@[simp] theorem setLast_inputs (p : Point) (s : State) : (setLast p s).inputs = s.inputs := rfl
@[simp] theorem setLast_power (p : Point) (s : State) : (setLast p s).power = s.power := rfl

/-! ## storeByte -/

@[simp] theorem storeByte_profile (v : Byte) (s : State) : (storeByte v s).profile = s.profile := rfl
@[simp] theorem storeByte_asm (v : Byte) (s : State) :
    (storeByte v s).asm = ⟨s.asm.fb.set s.asm.cnt.val v, if completesFrame s then 0 else s.asm.cnt + 1⟩ := rfl
@[simp] theorem storeByte_slot0 (v : Byte) (s : State) : (storeByte v s).slot0 = s.slot0 := rfl
@[simp] theorem storeByte_slot1 (v : Byte) (s : State) : (storeByte v s).slot1 = s.slot1 := rfl
@[simp] theorem storeByte_gesture (v : Byte) (s : State) : (storeByte v s).gesture = s.gesture := rfl
@[simp] theorem storeByte_status (v : Byte) (s : State) : (storeByte v s).status = s.status := rfl
@[simp] theorem storeByte_event (v : Byte) (s : State) : (storeByte v s).event = s.event := rfl
@[simp] theorem storeByte_diag (v : Byte) (s : State) : (storeByte v s).diag = s.diag := rfl
@[simp] theorem storeByte_inputs (v : Byte) (s : State) : (storeByte v s).inputs = s.inputs := rfl
@[simp] theorem storeByte_power (v : Byte) (s : State) : (storeByte v s).power = s.power := rfl

/-! ## releaseReset -/

@[simp] theorem releaseReset_profile (s : State) : (releaseReset s).profile = s.profile := rfl
@[simp] theorem releaseReset_asm (s : State) : (releaseReset s).asm = s.asm := rfl
@[simp] theorem releaseReset_slot0 (s : State) : (releaseReset s).slot0 = s.slot0.idle := rfl
@[simp] theorem releaseReset_slot1 (s : State) : (releaseReset s).slot1 = s.slot1.idle := rfl
@[simp] theorem releaseReset_gesture (s : State) :
    (releaseReset s).gesture = { s.gesture with lastValid := false, tapToClick := true } := rfl
@[simp] theorem releaseReset_status (s : State) : (releaseReset s).status = s.status := rfl
@[simp] theorem releaseReset_event (s : State) : (releaseReset s).event = s.event := rfl
@[simp] theorem releaseReset_diag (s : State) : (releaseReset s).diag = s.diag := rfl
@[simp] theorem releaseReset_inputs (s : State) : (releaseReset s).inputs = s.inputs := rfl
@[simp] theorem releaseReset_power (s : State) : (releaseReset s).power = s.power := rfl

/-! ## decodeReset -/

@[simp] theorem decodeReset_profile (s : State) : (decodeReset s).profile = s.profile := rfl
@[simp] theorem decodeReset_asm (s : State) : (decodeReset s).asm = ⟨s.asm.fb, 0⟩ := rfl
@[simp] theorem decodeReset_slot0 (s : State) : (decodeReset s).slot0 = s.slot0.idle := rfl
@[simp] theorem decodeReset_slot1 (s : State) : (decodeReset s).slot1 = s.slot1.idle := rfl
@[simp] theorem decodeReset_gesture (s : State) :
    (decodeReset s).gesture = { s.gesture with lastCount := 0, tapToClick := true, lastValid := false } := rfl
@[simp] theorem decodeReset_status (s : State) : (decodeReset s).status = ⟨.none, false⟩ := rfl
@[simp] theorem decodeReset_event (s : State) : (decodeReset s).event = ⟨false, 0, 0, 0⟩ := rfl
@[simp] theorem decodeReset_diag (s : State) : (decodeReset s).diag = ⟨0, 0⟩ := rfl
@[simp] theorem decodeReset_inputs (s : State) : (decodeReset s).inputs = s.inputs := rfl
@[simp] theorem decodeReset_power (s : State) : (decodeReset s).power = s.power := rfl

/-! ## fullReset -/

@[simp] theorem fullReset_profile (s : State) : (fullReset s).profile = { s.profile with valid := false } := rfl
@[simp] theorem fullReset_asm (s : State) : (fullReset s).asm = ⟨s.asm.fb, 0⟩ := rfl
@[simp] theorem fullReset_slot0 (s : State) : (fullReset s).slot0 = s.slot0.idle := rfl
@[simp] theorem fullReset_slot1 (s : State) : (fullReset s).slot1 = s.slot1.idle := rfl
@[simp] theorem fullReset_gesture (s : State) :
    (fullReset s).gesture = { s.gesture with lastCount := 0, tapToClick := true, lastValid := false } := rfl
@[simp] theorem fullReset_status (s : State) : (fullReset s).status = ⟨.none, false⟩ := rfl
@[simp] theorem fullReset_event (s : State) : (fullReset s).event = ⟨false, 0, 0, 0⟩ := rfl
@[simp] theorem fullReset_diag (s : State) : (fullReset s).diag = ⟨0, 0⟩ := rfl
@[simp] theorem fullReset_inputs (s : State) : (fullReset s).inputs = s.inputs := rfl
@[simp] theorem fullReset_power (s : State) :
    (fullReset s).power = { s.power with stage := s.power.stage.afterReset } := rfl

/-- A reset ends no wait for the CFG_LOAD (60_exceptions.md R159). -/
@[simp] theorem PowerStage.afterReset_ne_lost (p : PowerStage) : p.afterReset ≠ .lost := by cases p <;> simp [afterReset]
@[simp] theorem PowerStage.afterReset_intact (p : PowerStage) : p.afterReset = .intact ↔ p = .intact := by
  cases p <;> simp [afterReset]
@[simp] theorem PowerStage.afterReset_awaitingLoad (p : PowerStage) : p.afterReset = .awaitingLoad ↔ p ≠ .intact := by
  cases p <;> simp [afterReset]

/-! ## losePower: every register is a free value -/

@[simp] theorem losePower_profile (s : State) :
    (losePower s).profile = (Config.afterPowerTransition s.power.transitions).profile := rfl
@[simp] theorem losePower_asm (s : State) :
    (losePower s).asm = (Config.afterPowerTransition s.power.transitions).asm := rfl
@[simp] theorem losePower_slot0 (s : State) :
    (losePower s).slot0 = (Config.afterPowerTransition s.power.transitions).slot0 := rfl
@[simp] theorem losePower_slot1 (s : State) :
    (losePower s).slot1 = (Config.afterPowerTransition s.power.transitions).slot1 := rfl
@[simp] theorem losePower_gesture (s : State) :
    (losePower s).gesture = (Config.afterPowerTransition s.power.transitions).gesture := rfl
@[simp] theorem losePower_status (s : State) :
    (losePower s).status = (Config.afterPowerTransition s.power.transitions).status := rfl
@[simp] theorem losePower_event (s : State) :
    (losePower s).event = (Config.afterPowerTransition s.power.transitions).event := rfl
@[simp] theorem losePower_diag (s : State) :
    (losePower s).diag = (Config.afterPowerTransition s.power.transitions).diag := rfl
@[simp] theorem losePower_inputs (s : State) : (losePower s).inputs = s.inputs := rfl
@[simp] theorem losePower_power (s : State) : (losePower s).power = ⟨.lost, s.power.transitions + 1⟩ := rfl

/-! ## accept -/

@[simp] theorem State.accept_profile (s : State) (l : List Transaction) : (s.accept l).profile = s.profile := rfl
@[simp] theorem State.accept_asm (s : State) (l : List Transaction) : (s.accept l).asm = s.asm := rfl
@[simp] theorem State.accept_slot0 (s : State) (l : List Transaction) : (s.accept l).slot0 = s.slot0 := rfl
@[simp] theorem State.accept_slot1 (s : State) (l : List Transaction) : (s.accept l).slot1 = s.slot1 := rfl
@[simp] theorem State.accept_gesture (s : State) (l : List Transaction) : (s.accept l).gesture = s.gesture := rfl
@[simp] theorem State.accept_status (s : State) (l : List Transaction) : (s.accept l).status = s.status := rfl
@[simp] theorem State.accept_event (s : State) (l : List Transaction) : (s.accept l).event = s.event := rfl
@[simp] theorem State.accept_diag (s : State) (l : List Transaction) : (s.accept l).diag = s.diag := rfl
@[simp] theorem State.accept_inputs (s : State) (l : List Transaction) : (s.accept l).inputs = l := rfl
@[simp] theorem State.accept_power (s : State) (l : List Transaction) :
    (s.accept l).power = { s.power with stage := .intact } := rfl

/-- Before any power transition, accepting a transaction takes it out of the queue and does nothing else. -/
theorem State.accept_intact (s : State) (l : List Transaction) (h : s.power.stage = .intact) :
    s.accept l = s.setInputs l := by
  obtain ⟨_, _, _, _, _, _, _, _, _, _, _⟩ := s
  cases h
  rfl

/-! ## setSlot -/

@[simp] theorem State.setSlot_profile (s : State) (k : SlotId) (t : FingerTrack) :
    (s.setSlot k t).profile = s.profile := by cases k <;> rfl
@[simp] theorem State.setSlot_asm (s : State) (k : SlotId) (t : FingerTrack) :
    (s.setSlot k t).asm = s.asm := by cases k <;> rfl
@[simp] theorem State.setSlot_gesture (s : State) (k : SlotId) (t : FingerTrack) :
    (s.setSlot k t).gesture = s.gesture := by cases k <;> rfl
@[simp] theorem State.setSlot_status (s : State) (k : SlotId) (t : FingerTrack) :
    (s.setSlot k t).status = s.status := by cases k <;> rfl
@[simp] theorem State.setSlot_event (s : State) (k : SlotId) (t : FingerTrack) :
    (s.setSlot k t).event = s.event := by cases k <;> rfl
@[simp] theorem State.setSlot_diag (s : State) (k : SlotId) (t : FingerTrack) :
    (s.setSlot k t).diag = s.diag := by cases k <;> rfl
@[simp] theorem State.setSlot_inputs (s : State) (k : SlotId) (t : FingerTrack) :
    (s.setSlot k t).inputs = s.inputs := by cases k <;> rfl
@[simp] theorem State.setSlot_power (s : State) (k : SlotId) (t : FingerTrack) :
    (s.setSlot k t).power = s.power := by cases k <;> rfl

/-! ## setPos -/

@[simp] theorem setPos_profile (k : SlotId) (p : Point) (s : State) :
    (setPos k p s).profile = s.profile := by cases k <;> rfl
@[simp] theorem setPos_asm (k : SlotId) (p : Point) (s : State) : (setPos k p s).asm = s.asm := by cases k <;> rfl
@[simp] theorem setPos_gesture (k : SlotId) (p : Point) (s : State) :
    (setPos k p s).gesture = s.gesture := by cases k <;> rfl
@[simp] theorem setPos_status (k : SlotId) (p : Point) (s : State) :
    (setPos k p s).status = s.status := by cases k <;> rfl
@[simp] theorem setPos_event (k : SlotId) (p : Point) (s : State) :
    (setPos k p s).event = s.event := by cases k <;> rfl
@[simp] theorem setPos_diag (k : SlotId) (p : Point) (s : State) : (setPos k p s).diag = s.diag := by cases k <;> rfl
@[simp] theorem setPos_inputs (k : SlotId) (p : Point) (s : State) :
    (setPos k p s).inputs = s.inputs := by cases k <;> rfl
@[simp] theorem setPos_power (k : SlotId) (p : Point) (s : State) :
    (setPos k p s).power = s.power := by cases k <;> rfl

/-! ## latchStart -/

@[simp] theorem latchStart_profile (k : SlotId) (p : Point) (s : State) :
    (latchStart k p s).profile = s.profile := by cases k <;> rfl
@[simp] theorem latchStart_asm (k : SlotId) (p : Point) (s : State) :
    (latchStart k p s).asm = s.asm := by cases k <;> rfl
@[simp] theorem latchStart_gesture (k : SlotId) (p : Point) (s : State) :
    (latchStart k p s).gesture = s.gesture := by cases k <;> rfl
@[simp] theorem latchStart_status (k : SlotId) (p : Point) (s : State) :
    (latchStart k p s).status = s.status := by cases k <;> rfl
@[simp] theorem latchStart_event (k : SlotId) (p : Point) (s : State) :
    (latchStart k p s).event = s.event := by cases k <;> rfl
@[simp] theorem latchStart_diag (k : SlotId) (p : Point) (s : State) :
    (latchStart k p s).diag = s.diag := by cases k <;> rfl
@[simp] theorem latchStart_inputs (k : SlotId) (p : Point) (s : State) :
    (latchStart k p s).inputs = s.inputs := by cases k <;> rfl
@[simp] theorem latchStart_power (k : SlotId) (p : Point) (s : State) :
    (latchStart k p s).power = s.power := by cases k <;> rfl

/-! ## disqualify -/

@[simp] theorem disqualify_profile (k : SlotId) (s : State) :
    (disqualify k s).profile = s.profile := by cases k <;> rfl
@[simp] theorem disqualify_asm (k : SlotId) (s : State) : (disqualify k s).asm = s.asm := by cases k <;> rfl
@[simp] theorem disqualify_gesture (k : SlotId) (s : State) :
    (disqualify k s).gesture = { s.gesture with tapToClick := false } := by cases k <;> rfl
@[simp] theorem disqualify_status (k : SlotId) (s : State) : (disqualify k s).status = s.status := by cases k <;> rfl
@[simp] theorem disqualify_event (k : SlotId) (s : State) : (disqualify k s).event = s.event := by cases k <;> rfl
@[simp] theorem disqualify_diag (k : SlotId) (s : State) : (disqualify k s).diag = s.diag := by cases k <;> rfl
@[simp] theorem disqualify_inputs (k : SlotId) (s : State) : (disqualify k s).inputs = s.inputs := by cases k <;> rfl
@[simp] theorem disqualify_power (k : SlotId) (s : State) :
    (disqualify k s).power = s.power := by cases k <;> rfl

/-! ## Slots -/

@[simp] theorem State.slot_s0 (s : State) : s.slot .s0 = s.slot0 := rfl
@[simp] theorem State.slot_s1 (s : State) : s.slot .s1 = s.slot1 := rfl
@[simp] theorem State.setSlot_s0_slot0 (s : State) (t : FingerTrack) : (s.setSlot .s0 t).slot0 = t := rfl
@[simp] theorem State.setSlot_s0_slot1 (s : State) (t : FingerTrack) : (s.setSlot .s0 t).slot1 = s.slot1 := rfl
@[simp] theorem State.setSlot_s1_slot0 (s : State) (t : FingerTrack) : (s.setSlot .s1 t).slot0 = s.slot0 := rfl
@[simp] theorem State.setSlot_s1_slot1 (s : State) (t : FingerTrack) : (s.setSlot .s1 t).slot1 = t := rfl

/-- Writing a slot and reading a slot: the written one has the new track, the other the old. -/
@[simp] theorem State.setSlot_slot (s : State) (k j : SlotId) (t : FingerTrack) :
    (s.setSlot k t).slot j = if j = k then t else s.slot j := by cases k <;> cases j <;> rfl

/-- setPos writes the position of its slot only. -/
@[simp] theorem setPos_slot (k j : SlotId) (p : Point) (s : State) :
    (setPos k p s).slot j =
      if j = k then { s.slot k with posValid := true, posX := p.x, posY := p.y } else s.slot j :=
  State.setSlot_slot s k j _

/-- latchStart writes the start point and the range flag of its slot only. -/
@[simp] theorem latchStart_slot (k j : SlotId) (p : Point) (s : State) :
    (latchStart k p s).slot j =
      if j = k then { s.slot k with startValid := true, startX := p.x, startY := p.y, tapInRange := true }
      else s.slot j :=
  State.setSlot_slot s k j _

/-- disqualify clears the range flag of its slot only. -/
@[simp] theorem disqualify_slot (k j : SlotId) (s : State) :
    (disqualify k s).slot j = if j = k then { s.slot k with tapInRange := false } else s.slot j := by
  cases k <;> cases j <;> rfl

/-- A slot is read by its two names, so two states agree on the slots when they agree on every slot. -/
theorem State.slots_eq_iff (s t : State) :
    (s.slot0 = t.slot0 ∧ s.slot1 = t.slot1) ↔ ∀ k, s.slot k = t.slot k :=
  ⟨fun h k => by cases k; exacts [h.1, h.2], fun h => ⟨h .s0, h .s1⟩⟩

/-! ## Slots by name -/

@[simp] theorem setPos_s0_slot0 (p : Point) (s : State) :
    (setPos .s0 p s).slot0 = { s.slot0 with posValid := true, posX := p.x, posY := p.y } := rfl
@[simp] theorem setPos_s0_slot1 (p : Point) (s : State) :
    (setPos .s0 p s).slot1 = s.slot1 := rfl
@[simp] theorem setPos_s1_slot0 (p : Point) (s : State) :
    (setPos .s1 p s).slot0 = s.slot0 := rfl
@[simp] theorem setPos_s1_slot1 (p : Point) (s : State) :
    (setPos .s1 p s).slot1 = { s.slot1 with posValid := true, posX := p.x, posY := p.y } := rfl
@[simp] theorem latchStart_s0_slot0 (p : Point) (s : State) :
    (latchStart .s0 p s).slot0 = { s.slot0 with startValid := true, startX := p.x, startY := p.y, tapInRange := true } := rfl
@[simp] theorem latchStart_s0_slot1 (p : Point) (s : State) :
    (latchStart .s0 p s).slot1 = s.slot1 := rfl
@[simp] theorem latchStart_s1_slot0 (p : Point) (s : State) :
    (latchStart .s1 p s).slot0 = s.slot0 := rfl
@[simp] theorem latchStart_s1_slot1 (p : Point) (s : State) :
    (latchStart .s1 p s).slot1 = { s.slot1 with startValid := true, startX := p.x, startY := p.y, tapInRange := true } := rfl
@[simp] theorem disqualify_s0_slot0 (s : State) :
    (disqualify .s0 s).slot0 = { s.slot0 with tapInRange := false } := rfl
@[simp] theorem disqualify_s0_slot1 (s : State) :
    (disqualify .s0 s).slot1 = s.slot1 := rfl
@[simp] theorem disqualify_s1_slot0 (s : State) :
    (disqualify .s1 s).slot0 = s.slot0 := rfl
@[simp] theorem disqualify_s1_slot1 (s : State) :
    (disqualify .s1 s).slot1 = { s.slot1 with tapInRange := false } := rfl

@[simp] theorem setLastCount_slot (n : BitVec 2) (s : State) (k : SlotId) : (setLastCount n s).slot k = s.slot k := by
  cases k <;> rfl
@[simp] theorem setLast_slot (p : Point) (s : State) (k : SlotId) : (setLast p s).slot k = s.slot k := by
  cases k <;> rfl
@[simp] theorem State.setGesture_slot (s : State) (g : Gesture) (k : SlotId) : (s.setGesture g).slot k = s.slot k := by
  cases k <;> rfl

/-! ## Idle slots -/

@[simp] theorem FingerTrack.idle_posValid (t : FingerTrack) : t.idle.posValid = false := rfl
@[simp] theorem FingerTrack.idle_startValid (t : FingerTrack) : t.idle.startValid = false := rfl
@[simp] theorem FingerTrack.idle_tapInRange (t : FingerTrack) : t.idle.tapInRange = false := rfl
@[simp] theorem FingerTrack.idle_posX (t : FingerTrack) : t.idle.posX = t.posX := rfl
@[simp] theorem FingerTrack.idle_posY (t : FingerTrack) : t.idle.posY = t.posY := rfl
@[simp] theorem FingerTrack.idle_startX (t : FingerTrack) : t.idle.startX = t.startX := rfl
@[simp] theorem FingerTrack.idle_startY (t : FingerTrack) : t.idle.startY = t.startY := rfl

@[simp] theorem FingerTrack.idle_pos? (t : FingerTrack) : t.idle.pos? = none := rfl
@[simp] theorem FingerTrack.idle_start? (t : FingerTrack) : t.idle.start? = none := rfl
@[simp] theorem FingerTrack.idle_allowsTap (t : FingerTrack) : t.idle.allowsTap = true := rfl

end Sys2Proof.Machine
end

