-- ==== Sys2Proof/Laws/Ops.lean ====
section
/-!
SUPPORT. One specification per shared operation: everything it can do, which later proofs cite instead of unfolding it.
-/

namespace Sys2Proof.Machine

/-! ## emitMotion: only the event port -/

@[simp] theorem emitMotion_profile (p : Point) (b : BitVec 2) (s : State) :
    (emitMotion p b s).profile = s.profile := by
  unfold emitMotion; split <;> rfl
@[simp] theorem emitMotion_asm (p : Point) (b : BitVec 2) (s : State) :
    (emitMotion p b s).asm = s.asm := by
  unfold emitMotion; split <;> rfl
@[simp] theorem emitMotion_slot0 (p : Point) (b : BitVec 2) (s : State) :
    (emitMotion p b s).slot0 = s.slot0 := by
  unfold emitMotion; split <;> rfl
@[simp] theorem emitMotion_slot1 (p : Point) (b : BitVec 2) (s : State) :
    (emitMotion p b s).slot1 = s.slot1 := by
  unfold emitMotion; split <;> rfl
@[simp] theorem emitMotion_gesture (p : Point) (b : BitVec 2) (s : State) :
    (emitMotion p b s).gesture = s.gesture := by
  unfold emitMotion; split <;> rfl
@[simp] theorem emitMotion_status (p : Point) (b : BitVec 2) (s : State) :
    (emitMotion p b s).status = s.status := by
  unfold emitMotion; split <;> rfl
@[simp] theorem emitMotion_diag (p : Point) (b : BitVec 2) (s : State) :
    (emitMotion p b s).diag = s.diag := by
  unfold emitMotion; split <;> rfl
@[simp] theorem emitMotion_inputs (p : Point) (b : BitVec 2) (s : State) :
    (emitMotion p b s).inputs = s.inputs := by
  unfold emitMotion; split <;> rfl
@[simp] theorem emitMotion_power (p : Point) (b : BitVec 2) (s : State) :
    (emitMotion p b s).power = s.power := by
  unfold emitMotion; split <;> rfl

/-- Without a last point there is no motion event (42_position_decoder.md R106). -/
theorem emitMotion_event_none (p : Point) (b : BitVec 2) (s : State) (h : s.gesture.lastValid = false) :
    (emitMotion p b s).event = s.event := by
  simp [emitMotion, Gesture.last?, h]

/-- With a last point the motion event carries the exact difference (42_position_decoder.md R106). -/
theorem emitMotion_event_some (p : Point) (b : BitVec 2) (s : State) (h : s.gesture.lastValid = true) :
    (emitMotion p b s).event = ⟨true, BitVec.ofInt 16 (p.xInt - (s.gesture.lastX.toNat : Int)),
      BitVec.ofInt 16 (p.yInt - s.gesture.lastY.toInt), b⟩ := by
  simp [emitMotion, Gesture.last?, h, emit, Point.xInt, Point.yInt]

/-! ## tapTrack: one slot and TAP_TO_CLICK -/

@[simp] theorem tapTrack_profile (k : SlotId) (p : Point) (s : State) :
    (tapTrack k p s).profile = s.profile := by
  unfold tapTrack tapCompare; split <;> [skip; split] <;> simp
@[simp] theorem tapTrack_asm (k : SlotId) (p : Point) (s : State) :
    (tapTrack k p s).asm = s.asm := by
  unfold tapTrack tapCompare; split <;> [skip; split] <;> simp
@[simp] theorem tapTrack_status (k : SlotId) (p : Point) (s : State) :
    (tapTrack k p s).status = s.status := by
  unfold tapTrack tapCompare; split <;> [skip; split] <;> simp
@[simp] theorem tapTrack_event (k : SlotId) (p : Point) (s : State) :
    (tapTrack k p s).event = s.event := by
  unfold tapTrack tapCompare; split <;> [skip; split] <;> simp
@[simp] theorem tapTrack_diag (k : SlotId) (p : Point) (s : State) :
    (tapTrack k p s).diag = s.diag := by
  unfold tapTrack tapCompare; split <;> [skip; split] <;> simp
@[simp] theorem tapTrack_inputs (k : SlotId) (p : Point) (s : State) :
    (tapTrack k p s).inputs = s.inputs := by
  unfold tapTrack tapCompare; split <;> [skip; split] <;> simp
@[simp] theorem tapTrack_power (k : SlotId) (p : Point) (s : State) :
    (tapTrack k p s).power = s.power := by
  unfold tapTrack tapCompare; split <;> [skip; split] <;> simp

/-- First contact: the start point is latched and the slot in range (43_tap_gesture.md R131). -/
theorem tapTrack_first (k : SlotId) (p : Point) (s : State) (h : (s.slot k).startValid = false) :
    tapTrack k p s = latchStart k p s := by
  simp [tapTrack, FingerTrack.start?, h]

/-- Later contact: the threshold comparator (43_tap_gesture.md R132). -/
theorem tapTrack_later (k : SlotId) (p : Point) (s : State) (h : (s.slot k).startValid = true) :
    tapTrack k p s =
      if exceedsTapRadius ⟨(s.slot k).startX, (s.slot k).startY⟩ p then disqualify k s else s := by
  simp [tapTrack, FingerTrack.start?, h, tapCompare]

/-- The comparator's test on integers (43_tap_gesture.md R132). -/
theorem exceedsTapRadius_iff (a p : Point) :
    exceedsTapRadius a p = true ↔ 32 < (p.xInt - a.xInt).natAbs ∨ 32 < (p.yInt - a.yInt).natAbs := by
  simp only [exceedsTapRadius, Bool.or_eq_true, decide_eq_true_eq]
  rfl

/-- tapTrack leaves the other slot alone. -/
theorem tapTrack_slot_ne (k j : SlotId) (p : Point) (s : State) (h : j ≠ k) :
    (tapTrack k p s).slot j = s.slot j := by
  unfold tapTrack tapCompare
  split <;> [skip; split] <;> simp [h]

/-- tapTrack writes no gesture register but TAP_TO_CLICK. -/
theorem tapTrack_gesture (k : SlotId) (p : Point) (s : State) :
    (tapTrack k p s).gesture = { s.gesture with tapToClick := (tapTrack k p s).gesture.tapToClick } := by
  unfold tapTrack tapCompare
  split <;> [skip; split] <;> simp

/-! ## The operations of a full release -/

/-- DecodeF0 as one update (42_position_decoder.md R105, 43_tap_gesture.md R135). -/
theorem decodeF0_eq (b : BitVec 2) (s : State) :
    decodeF0 b s =
      { s with
        event := ⟨true, 0, 0, b ||| releaseTapBit s⟩
        slot0 := s.slot0.idle
        slot1 := s.slot1.idle
        gesture := ⟨0, true, false, s.gesture.lastX, s.gesture.lastY⟩ } := by
  unfold decodeF0 consumeTap
  split <;> rfl

/-! ## The decoder's operations -/

/-- The decoded y is the exact difference: nothing wraps (42_position_decoder.md R100, R102). -/
theorem decodeSample_yInt (ymax x yraw : BitVec 12) :
    (decodeSample ymax x yraw).yInt = (ymax.toNat : Int) - (yraw.toNat : Int) := by
  have := ymax.isLt
  have := yraw.isLt
  simp only [decodeSample, Point.yInt, BitVec.toInt_ofInt]
  rw [Int.bmod_eq_of_le] <;> omega

@[simp] theorem decodeSample_x (ymax x yraw : BitVec 12) : (decodeSample ymax x yraw).x = x := rfl

@[simp] theorem decodeSample_xInt (ymax x yraw : BitVec 12) :
    (decodeSample ymax x yraw).xInt = (x.toNat : Int) := rfl

/-- Validity on integers (42_position_decoder.md R101). -/
theorem decodeSample_isValid_iff (ymax x yraw : BitVec 12) :
    (decodeSample ymax x yraw).isValid = true ↔
      x.toNat ≠ 0 ∧ (ymax.toNat : Int) - (yraw.toNat : Int) ≠ 0 := by
  have hy : (decodeSample ymax x yraw).y = 0 ↔ (ymax.toNat : Int) - (yraw.toNat : Int) = 0 := by
    rw [← decodeSample_yInt ymax x yraw, Point.yInt, ← BitVec.toInt_inj]
    simp
  have hx : x = 0 ↔ x.toNat = 0 := by
    rw [← BitVec.toNat_inj]
    simp
  simp only [Point.isValid, decodeSample_x, Bool.and_eq_true, bne_iff_ne, ne_eq, hx, hy]

/-- A malformed one-finger sample (42_position_decoder.md R106, R112). -/
theorem decodeF1_invalid (x yraw : BitVec 12) (b : BitVec 2) (s : State)
    (h : (decodeSample s.profile.ymax x yraw).isValid = false) :
    decodeF1 x yraw b s =
      { s with status := ⟨s.status.verdict, true⟩, gesture := { s.gesture with lastCount := 1 } } := by
  simp [decodeF1, h, setLastCount, State.setGesture, markMalformed]

/-- A valid one-finger sample (42_position_decoder.md R106). -/
theorem decodeF1_valid (x yraw : BitVec 12) (b : BitVec 2) (s : State)
    (h : (decodeSample s.profile.ymax x yraw).isValid = true) :
    decodeF1 x yraw b s =
      setLastCount 1 (tapTrack .s0 (decodeSample s.profile.ymax x yraw) (setPos .s0 (decodeSample s.profile.ymax x yraw)
        (setLast (decodeSample s.profile.ymax x yraw) (emitMotion (decodeSample s.profile.ymax x yraw) b s)))) := by
  simp [decodeF1, h]

/-- A malformed two-finger sample (42_position_decoder.md R107, R108, R112). -/
theorem decodeF2_invalid (k : SlotId) (x yraw : BitVec 12) (s : State)
    (h : (decodeSample s.profile.ymax x yraw).isValid = false) :
    decodeF2 k x yraw s =
      { s with status := ⟨s.status.verdict, true⟩, gesture := { s.gesture with lastCount := 2 } } := by
  simp [decodeF2, h, setLastCount, State.setGesture, markMalformed]

/-- A valid two-finger sample (42_position_decoder.md R107, R108). -/
theorem decodeF2_valid (k : SlotId) (x yraw : BitVec 12) (s : State)
    (h : (decodeSample s.profile.ymax x yraw).isValid = true) :
    decodeF2 k x yraw s =
      setLastCount 2 (tapTrack k (decodeSample s.profile.ymax x yraw)
        (setPos k (decodeSample s.profile.ymax x yraw) s)) := by
  simp [decodeF2, h]

@[simp] theorem decodeF1_profile (x yraw : BitVec 12) (b : BitVec 2) (s : State) :
    (decodeF1 x yraw b s).profile = s.profile := by
  unfold decodeF1; dsimp only; split <;> simp
@[simp] theorem decodeF1_asm (x yraw : BitVec 12) (b : BitVec 2) (s : State) :
    (decodeF1 x yraw b s).asm = s.asm := by
  unfold decodeF1; dsimp only; split <;> simp
@[simp] theorem decodeF1_diag (x yraw : BitVec 12) (b : BitVec 2) (s : State) :
    (decodeF1 x yraw b s).diag = s.diag := by
  unfold decodeF1; dsimp only; split <;> simp
@[simp] theorem decodeF1_inputs (x yraw : BitVec 12) (b : BitVec 2) (s : State) :
    (decodeF1 x yraw b s).inputs = s.inputs := by
  unfold decodeF1; dsimp only; split <;> simp
@[simp] theorem decodeF1_power (x yraw : BitVec 12) (b : BitVec 2) (s : State) :
    (decodeF1 x yraw b s).power = s.power := by
  unfold decodeF1; dsimp only; split <;> simp
@[simp] theorem decodeF2_profile (k : SlotId) (x yraw : BitVec 12) (s : State) :
    (decodeF2 k x yraw s).profile = s.profile := by
  unfold decodeF2; dsimp only; split <;> simp
@[simp] theorem decodeF2_asm (k : SlotId) (x yraw : BitVec 12) (s : State) :
    (decodeF2 k x yraw s).asm = s.asm := by
  unfold decodeF2; dsimp only; split <;> simp
@[simp] theorem decodeF2_diag (k : SlotId) (x yraw : BitVec 12) (s : State) :
    (decodeF2 k x yraw s).diag = s.diag := by
  unfold decodeF2; dsimp only; split <;> simp
@[simp] theorem decodeF2_inputs (k : SlotId) (x yraw : BitVec 12) (s : State) :
    (decodeF2 k x yraw s).inputs = s.inputs := by
  unfold decodeF2; dsimp only; split <;> simp
@[simp] theorem decodeF2_power (k : SlotId) (x yraw : BitVec 12) (s : State) :
    (decodeF2 k x yraw s).power = s.power := by
  unfold decodeF2; dsimp only; split <;> simp
@[simp] theorem decodeF2_event (k : SlotId) (x yraw : BitVec 12) (s : State) :
    (decodeF2 k x yraw s).event = s.event := by
  unfold decodeF2; dsimp only; split <;> simp
@[simp] theorem decodeF0_profile (b : BitVec 2) (s : State) :
    (decodeF0 b s).profile = s.profile := by rw [decodeF0_eq]
@[simp] theorem decodeF0_asm (b : BitVec 2) (s : State) :
    (decodeF0 b s).asm = s.asm := by rw [decodeF0_eq]
@[simp] theorem decodeF0_status (b : BitVec 2) (s : State) :
    (decodeF0 b s).status = s.status := by rw [decodeF0_eq]
@[simp] theorem decodeF0_diag (b : BitVec 2) (s : State) :
    (decodeF0 b s).diag = s.diag := by rw [decodeF0_eq]
@[simp] theorem decodeF0_inputs (b : BitVec 2) (s : State) :
    (decodeF0 b s).inputs = s.inputs := by rw [decodeF0_eq]
@[simp] theorem decodeF0_power (b : BitVec 2) (s : State) :
    (decodeF0 b s).power = s.power := by rw [decodeF0_eq]

/-! ## Frame entry -/

@[simp] theorem enterHead_profile (n : BitVec 2) (f : HeadFields) (s : State) :
    (enterHead n f s).profile = s.profile := rfl
@[simp] theorem enterHead_asm (n : BitVec 2) (f : HeadFields) (s : State) :
    (enterHead n f s).asm = s.asm := rfl
@[simp] theorem enterHead_slot0 (n : BitVec 2) (f : HeadFields) (s : State) :
    (enterHead n f s).slot0 = s.slot0 := rfl
@[simp] theorem enterHead_slot1 (n : BitVec 2) (f : HeadFields) (s : State) :
    (enterHead n f s).slot1 = s.slot1 := rfl
@[simp] theorem enterHead_gesture (n : BitVec 2) (f : HeadFields) (s : State) :
    (enterHead n f s).gesture = s.gesture := rfl
@[simp] theorem enterHead_status (n : BitVec 2) (f : HeadFields) (s : State) :
    (enterHead n f s).status = ⟨.head, false⟩ := rfl
@[simp] theorem enterHead_event (n : BitVec 2) (f : HeadFields) (s : State) :
    (enterHead n f s).event = s.event := rfl
@[simp] theorem enterHead_diag (n : BitVec 2) (f : HeadFields) (s : State) :
    (enterHead n f s).diag = ⟨(Config.pressureWidth (headWord n f)).pressure, (Config.pressureWidth (headWord n f)).width⟩ := rfl
@[simp] theorem enterHead_inputs (n : BitVec 2) (f : HeadFields) (s : State) :
    (enterHead n f s).inputs = s.inputs := rfl
@[simp] theorem enterHead_power (n : BitVec 2) (f : HeadFields) (s : State) :
    (enterHead n f s).power = s.power := rfl
@[simp] theorem enterTail_profile (n : BitVec 2) (f : TailFields) (s : State) :
    (enterTail n f s).profile = s.profile := rfl
@[simp] theorem enterTail_asm (n : BitVec 2) (f : TailFields) (s : State) :
    (enterTail n f s).asm = s.asm := rfl
@[simp] theorem enterTail_slot0 (n : BitVec 2) (f : TailFields) (s : State) :
    (enterTail n f s).slot0 = s.slot0 := rfl
@[simp] theorem enterTail_slot1 (n : BitVec 2) (f : TailFields) (s : State) :
    (enterTail n f s).slot1 = s.slot1 := rfl
@[simp] theorem enterTail_gesture (n : BitVec 2) (f : TailFields) (s : State) :
    (enterTail n f s).gesture = s.gesture := rfl
@[simp] theorem enterTail_status (n : BitVec 2) (f : TailFields) (s : State) :
    (enterTail n f s).status = ⟨.tail, false⟩ := rfl
@[simp] theorem enterTail_event (n : BitVec 2) (f : TailFields) (s : State) :
    (enterTail n f s).event = s.event := rfl
@[simp] theorem enterTail_diag (n : BitVec 2) (f : TailFields) (s : State) :
    (enterTail n f s).diag = ⟨(Config.pressureWidth (tailWord n f)).pressure, (Config.pressureWidth (tailWord n f)).width⟩ := rfl
@[simp] theorem enterTail_inputs (n : BitVec 2) (f : TailFields) (s : State) :
    (enterTail n f s).inputs = s.inputs := rfl
@[simp] theorem enterTail_power (n : BitVec 2) (f : TailFields) (s : State) :
    (enterTail n f s).power = s.power := rfl

/-! ## Rows -/

theorem fingers_cases (n : BitVec 2) : n = 0 ∨ n = 1 ∨ n = 2 ∨ n = 3 := by revert n; decide

/-- The ten rows of a generation-3 frame, each with its class and finger count (30_encoding.md R54). -/
theorem decodeV3_cases (w : FrameWord) :
    (classifyV3 w = .debounce ∧ decodeV3 w = .v3Debounce) ∨
    (classifyV3 w = .unknown ∧ decodeV3 w = .v3Unknown w) ∨
    (classifyV3 w = .head ∧ fingersOf w = 0 ∧ decodeV3 w = .v3HeadF0 (headFields w)) ∨
    (classifyV3 w = .head ∧ fingersOf w = 1 ∧ decodeV3 w = .v3HeadF1 (headFields w)) ∨
    (classifyV3 w = .head ∧ fingersOf w = 2 ∧ decodeV3 w = .v3HeadF2 (headFields w)) ∨
    (classifyV3 w = .head ∧ fingersOf w = 3 ∧ decodeV3 w = .v3HeadF3 (headFields w)) ∨
    (classifyV3 w = .tail ∧ fingersOf w = 0 ∧ decodeV3 w = .v3TailF0 (tailFields w)) ∨
    (classifyV3 w = .tail ∧ fingersOf w = 1 ∧ decodeV3 w = .v3TailF1 (tailFields w)) ∨
    (classifyV3 w = .tail ∧ fingersOf w = 2 ∧ decodeV3 w = .v3TailF2 (tailFields w)) ∨
    (classifyV3 w = .tail ∧ fingersOf w = 3 ∧ decodeV3 w = .v3TailF3 (tailFields w)) := by
  rcases hc : classifyV3 w <;> rcases fingers_cases (fingersOf w) with h | h | h | h <;> simp [decodeV3, hc, h]

/-- A frame decodes to a frame row, never to a port row (30_encoding.md R50, R54). -/
theorem decodeFrame_is_row (g : Generation) (fb : Vector Byte 6) :
    (∀ v, decodeFrame g fb ≠ .byteIn v) ∧ (∀ fw ymax o, decodeFrame g fb ≠ .cfgLoad fw ymax o) := by
  cases g with
  | g3 =>
    simp only [decodeFrame, decodeV3]
    split <;> (try split_ifs) <;> simp
  | g1 => simp [decodeFrame]
  | g2 => simp [decodeFrame]
  | g4 => simp [decodeFrame]

/-- A frame row writes neither the profile nor the frame assembler nor the model's own fields. -/
theorem frameRow_frame (i : Instr) (s t : State) (hb : ∀ v, i ≠ .byteIn v)
    (hc : ∀ fw ymax o, i ≠ .cfgLoad fw ymax o) (h : exec i s = .next t) :
    t.inputs = s.inputs ∧ t.power = s.power ∧ t.profile = s.profile ∧ t.asm = s.asm := by
  cases i with
  | byteIn v => exact absurd rfl (hb v)
  | cfgLoad fw ymax o => exact absurd rfl (hc fw ymax o)
  | _ => injection h with h; subst h; simp [beginFrame]

@[simp] theorem decodeF1_verdict (x yraw : BitVec 12) (b : BitVec 2) (s : State) :
    (decodeF1 x yraw b s).status.verdict = s.status.verdict := by
  unfold decodeF1; dsimp only; split <;> simp
@[simp] theorem decodeF2_verdict (k : SlotId) (x yraw : BitVec 12) (s : State) :
    (decodeF2 k x yraw s).status.verdict = s.status.verdict := by
  unfold decodeF2; dsimp only; split <;> simp
@[simp] theorem decodeF1_lastCount (x yraw : BitVec 12) (b : BitVec 2) (s : State) :
    (decodeF1 x yraw b s).gesture.lastCount = 1 := rfl
@[simp] theorem decodeF2_lastCount (k : SlotId) (x yraw : BitVec 12) (s : State) :
    (decodeF2 k x yraw s).gesture.lastCount = 2 := rfl

/-! ## Frame assembly -/

/-- No frame decodes to a port row, so ProcessFrame of a decoded frame is `exec` of its row (40_frame_assembly.md R73). -/
theorem processFrame_decodeFrame (g : Generation) (fb : Vector Byte 6) (s : State) :
    processFrame (decodeFrame g fb) s = exec (decodeFrame g fb) s := by
  cases g <;> try rfl
  simp only [decodeFrame, decodeV3]
  split
  · rfl
  · split_ifs <;> rfl
  · split_ifs <;> rfl
  · rfl

/-- CNT + 1 does not wrap inside a frame (40_frame_assembly.md R70). -/
theorem cnt_succ_val (a : Fin 6) (n : FrameLength) (h : a.val + 1 < n.toNat) : (a + 1).val = a.val + 1 := by
  have : n.toNat ≤ 6 := by cases n <;> simp [FrameLength.toNat]
  rw [Fin.val_add_one_of_lt']
  omega

/-- BYTE_IN without a profile (40_frame_assembly.md R75). -/
theorem execByteIn_discarded (v : Byte) (s : State) (h : s.profile.valid = false) :
    execByteIn v s = .next (clearStrobe s) := by
  simp [execByteIn, h]

/-- BYTE_IN inside a frame (40_frame_assembly.md R71). -/
theorem execByteIn_partial (v : Byte) (s : State) (h : s.profile.valid = true) (hc : completesFrame s = false) :
    execByteIn v s = .next (storeByte v (clearStrobe s)) := by
  simp [execByteIn, h, hc]

/-- BYTE_IN on a frame's last byte (40_frame_assembly.md R70, R73). -/
theorem execByteIn_complete (v : Byte) (s : State) (h : s.profile.valid = true) (hc : completesFrame s = true) :
    execByteIn v s = exec (decodeFrame s.profile.gen (bufferWith v s)) (storeByte v (clearStrobe s)) := by
  simp only [execByteIn, h, hc, if_true, processFrame_decodeFrame]
  rfl

/-- The state a completed frame is processed in. -/
theorem storeByte_complete (v : Byte) (s : State) (hc : completesFrame s = true) :
    storeByte v (clearStrobe s) =
      { s with asm := ⟨bufferWith v s, 0⟩, event := ⟨false, s.event.dx, s.event.dy, s.event.buttons⟩ } := by
  have h : completesFrame (clearStrobe s) = true := hc
  simp only [storeByte, h]
  rfl

theorem completesFrame_iff (s : State) : completesFrame s = true ↔ s.asm.cnt.val + 1 = s.profile.pktsize.toNat := by
  simp [completesFrame]

/-- The state after a byte inside a frame (40_frame_assembly.md R71). -/
theorem storeByte_partial (v : Byte) (s : State) (hc : completesFrame s = false) :
    storeByte v (clearStrobe s) =
      { s with
        asm := ⟨bufferWith v s, s.asm.cnt + 1⟩
        event := ⟨false, s.event.dx, s.event.dy, s.event.buttons⟩ } := by
  have h : completesFrame (clearStrobe s) = false := hc
  simp only [storeByte, h]
  rfl

/-- A byte that completes no frame writes FB, CNT and EV_VALID at most (40_frame_assembly.md R71, R75). -/
theorem byteIn_incomplete (v : Byte) (s t : State) (h : exec (.byteIn v) s = .next t)
    (hn : ¬ (s.profile.valid = true ∧ s.asm.cnt.val + 1 = s.profile.pktsize.toNat)) :
    t = { s with
      asm := t.asm
      event := ⟨false, s.event.dx, s.event.dy, s.event.buttons⟩ } := by
  change execByteIn v s = _ at h
  cases hv : s.profile.valid with
  | false =>
    rw [execByteIn_discarded v s hv] at h
    injection h with h
    subst h
    rfl
  | true =>
    have hc : completesFrame s = false := by
      cases hc : completesFrame s
      · rfl
      · exact absurd ⟨hv, (completesFrame_iff s).1 hc⟩ hn
    rw [execByteIn_partial v s hv hc] at h
    injection h with h
    subst h
    rfl

/-- Every instruction answers a next state (60_exceptions.md R150). -/
theorem exec_next (i : Instr) (s : State) : ∃ t, exec i s = .next t := by
  have row : ∀ (i : Instr) (s : State), (∀ v, i ≠ .byteIn v) → ∃ t, exec i s = .next t := by
    intro i s h
    cases i <;> first | exact ⟨_, rfl⟩ | exact absurd rfl (h _)
  cases i with
  | byteIn v =>
    change ∃ t, execByteIn v s = _
    cases hv : s.profile.valid with
    | false => exact ⟨_, execByteIn_discarded v s hv⟩
    | true =>
      cases hc : completesFrame s with
      | false => exact ⟨_, execByteIn_partial v s hv hc⟩
      | true =>
        rw [execByteIn_complete v s hv hc]
        exact row _ _ (decodeFrame_is_row _ _).1
  | _ => exact row _ _ (by intro v; simp)

/-! ## Steps -/

theorem step_idle (s : State) (h : s.inputs = []) : step s = .next s := by simp [step, h]

/-! ### Which transactions are accepted (60_exceptions.md R159) -/

@[simp] theorem portFault_intact (tr : Transaction) : portFault .intact tr = none := rfl
@[simp] theorem portFault_lost (tr : Transaction) : portFault .lost tr = some .stateLostByPowerTransition := rfl
@[simp] theorem portFault_awaitingLoad_port8 (v : Byte) :
    portFault .awaitingLoad (.port8 v) = some .noLoadSincePowerTransition := rfl
@[simp] theorem portFault_portCfg (p : PowerStage) (c : ConfigWord) :
    portFault p (.portCfg c) = none ↔ p ≠ .lost := by cases p <;> simp [portFault]

/-- An accepted port transaction runs its instruction. -/
theorem step_port (s : State) (tr : Transaction) (rest : List Transaction) (i : Instr) (h : s.inputs = tr :: rest)
    (hd : decodeTransaction tr = some i) (hp : portFault s.power.stage tr = none) :
    step s = exec i (s.accept rest) := by
  simp [step, h, hd, hp]

/-- With no power transition behind it, a port transaction runs its instruction at the state without it. -/
theorem step_port_intact (s : State) (tr : Transaction) (rest : List Transaction) (i : Instr)
    (h : s.inputs = tr :: rest) (hd : decodeTransaction tr = some i) (hp : s.power.stage = .intact) :
    step s = exec i (s.setInputs rest) := by
  rw [step_port s tr rest i h hd (by simp [hp]), s.accept_intact rest hp]

/-- A port transaction that is not accepted stops the machine. -/
theorem step_port_fault (s : State) (tr : Transaction) (rest : List Transaction) (i : Instr) (r : Fault)
    (h : s.inputs = tr :: rest) (hd : decodeTransaction tr = some i) (hp : portFault s.power.stage tr = some r) :
    step s = .fault r := by
  simp [step, h, hd, hp]

theorem step_reset (s : State) (rest : List Transaction) (h : s.inputs = .reset :: rest) :
    step s = .next (fullReset (s.setInputs rest)) := by
  simp [step, h, decodeTransaction, hostAct]

theorem step_powerTransition (s : State) (rest : List Transaction) (h : s.inputs = .powerTransition :: rest) :
    step s = .next (losePower (s.setInputs rest)) := by
  simp [step, h, decodeTransaction, hostAct]

/-- Everything a step that answers a next state can have done. -/
theorem step_cases (s t : State) (h : step s = .next t) :
    (s.inputs = [] ∧ t = s) ∨
    (∃ rest, s.inputs = .reset :: rest ∧ t = fullReset (s.setInputs rest)) ∨
    (∃ rest, s.inputs = .powerTransition :: rest ∧ t = losePower (s.setInputs rest)) ∨
    (∃ tr rest i, s.inputs = tr :: rest ∧ decodeTransaction tr = some i ∧ portFault s.power.stage tr = none ∧
      exec i (s.accept rest) = .next t) := by
  rcases hs : s.inputs with _ | ⟨tr, rest⟩
  · rw [step_idle s hs] at h
    injection h with h
    exact .inl ⟨rfl, h.symm⟩
  · cases hd : decodeTransaction tr with
    | some i =>
      cases hp : portFault s.power.stage tr with
      | none => exact .inr (.inr (.inr ⟨tr, rest, i, rfl, hd, hp, (step_port s tr rest i hs hd hp).symm.trans h⟩))
      | some r =>
        rw [step_port_fault s tr rest i r hs hd hp] at h
        cases h
    | none =>
      cases tr with
      | port8 v => cases hd
      | portCfg c => cases hd
      | reset =>
        rw [step_reset s rest hs] at h
        injection h with h
        exact .inr (.inl ⟨rest, rfl, h.symm⟩)
      | powerTransition =>
        rw [step_powerTransition s rest hs] at h
        injection h with h
        exact .inr (.inr (.inl ⟨rest, rfl, h.symm⟩))

theorem execAll_one (i : Instr) (s : State) : execAll [i] s = exec i s := by
  simp only [execAll]
  cases exec i s <;> rfl

/-- One step of a run of the core. -/
theorem run_succ (n : Nat) (s t : core.State) (h : core.step s = .next t) : core.run (n + 1) s = core.run n t := by
  simp only [Host.Core.run, h]

end Sys2Proof.Machine
end

