-- ==== Sys2Proof/Laws/PerInstr.lean ====
section
/-!
SUPPORT. Statements made per instruction, one lemma per constructor. Family EncodeLength: the bytes of an instruction are
as many as its row's format has (30_encoding.md R50, R59).
-/

namespace Sys2Proof.Laws

/-- The number of bytes of a format: one byte, the 37-bit configuration word in five, a frame of its generation's length
(30_encoding.md R50, R59; 10_state.md R12). -/
def formatLength : Format → Nat
  | .port8 => 1
  | .portCfg => 5
  | .frame .g1 => 4
  | .frame .g2 => 6
  | .frame .g3 => 6
  | .frame .g4 => 6

/-- The encoder writes exactly the bytes of the instruction's format. -/
def EncodeLength.Statement (i : Instr) : Prop := (encode i).length = formatLength (formatOf i)

theorem EncodeLength.byteIn (v : Byte) : EncodeLength.Statement (.byteIn v) := rfl
theorem EncodeLength.cfgLoad (fw : Firmware) (ymax : BitVec 12) (o : ParityOverride) :
    EncodeLength.Statement (.cfgLoad fw ymax o) := rfl
theorem EncodeLength.v3Debounce : EncodeLength.Statement (.v3Debounce) := rfl
theorem EncodeLength.v3HeadF0 (f : HeadFields) : EncodeLength.Statement (.v3HeadF0 f) := rfl
theorem EncodeLength.v3HeadF1 (f : HeadFields) : EncodeLength.Statement (.v3HeadF1 f) := rfl
theorem EncodeLength.v3HeadF2 (f : HeadFields) : EncodeLength.Statement (.v3HeadF2 f) := rfl
theorem EncodeLength.v3HeadF3 (f : HeadFields) : EncodeLength.Statement (.v3HeadF3 f) := rfl
theorem EncodeLength.v3TailF0 (f : TailFields) : EncodeLength.Statement (.v3TailF0 f) := rfl
theorem EncodeLength.v3TailF1 (f : TailFields) : EncodeLength.Statement (.v3TailF1 f) := rfl
theorem EncodeLength.v3TailF2 (f : TailFields) : EncodeLength.Statement (.v3TailF2 f) := rfl
theorem EncodeLength.v3TailF3 (f : TailFields) : EncodeLength.Statement (.v3TailF3 f) := rfl
theorem EncodeLength.v3Unknown (w : FrameWord) : EncodeLength.Statement (.v3Unknown w) := rfl
theorem EncodeLength.v1Frame (w : ShortFrameWord) : EncodeLength.Statement (.v1Frame w) := rfl
theorem EncodeLength.v2Frame (w : FrameWord) : EncodeLength.Statement (.v2Frame w) := rfl
theorem EncodeLength.v4Frame (w : FrameWord) : EncodeLength.Statement (.v4Frame w) := rfl

end Sys2Proof.Laws
end

