-- ==== Sys2Proof/Tests/Slice0.lean ====
section
/-!
SUPPORT. Tests: ill-formed terms refused, words written out from the spec's encodings, one step per vector of
95_test_vectors.md, and for every obligation with hypotheses a concrete state and operands that meet them together.
-/

namespace Sys2Proof.Tests

open Sys2Proof Sys2Proof.Machine Sys2Proof.Spec

/-! ## WellFormed: every check refuses something (30_encoding.md R53) -/

theorem test_wf_refuses_debounce_word_as_head : (Instr.v3HeadF3 HeadFields.debounce).wf = false := by decide
theorem test_wf_refuses_debounce_word_as_unknown : (Instr.v3Unknown 0xC4FFFF02FFFF).wf = false := by decide
theorem test_wf_refuses_head_word_as_unknown : (Instr.v3Unknown 0x440064020190).wf = false := by decide
theorem test_wf_refuses_tail_word_as_unknown : (Instr.v3Unknown 0x4C00640D0190).wf = false := by decide
theorem test_wf_takes_unknown_word : (Instr.v3Unknown 0x4C00640E0190).wf = true := by decide

/-! ## Decoding: words written out bit by bit from opcode_table.json and 30_encoding.md R51 -/

theorem test_decode_byte_in : decodeTableWord 8 0b10010000 = some (.byteIn 0x90) := by decide

/-- ffffffffffffffffffffffff yyyyyyyyyyyy p. -/
theorem test_decode_cfg_load :
    decodeTableWord 37 0b0000001000000000001000100001111101001 = some (.cfgLoad 0x020022 500 .forceZero) := by decide

theorem test_decode_debounce :
    decodeTableWord 48 0b110001001111111111111111000000101111111111111111 = some .v3Debounce := by decide

/-- 00uu01RL uuuuXXXX XXXXXXXX 00uu0010 uuuuYYYY YYYYYYYY, right button, x = 0x123, yraw = 0x956. -/
theorem test_decode_head_f0 :
    decodeTableWord 48 0b001101101010000100100011001000100101100101010110 =
      some (.v3HeadF0 ⟨3, 2, 10, 0x123, 2, 5, 0x956⟩) := by decide

theorem test_decode_head_f1 :
    decodeTableWord 48 0b011101101010000100100011001000100101100101010110 =
      some (.v3HeadF1 ⟨3, 2, 10, 0x123, 2, 5, 0x956⟩) := by decide

theorem test_decode_head_f2 :
    decodeTableWord 48 0b100001010000000011001000000000100000000011001000 =
      some (.v3HeadF2 ⟨0, 1, 0, 200, 0, 0, 200⟩) := by decide

/-- One bit off the Debounce word: [C4 FF FF 02 FF FE] (95_test_vectors.md 2.4). -/
theorem test_decode_head_f3 :
    decodeTableWord 48 0b110001001111111111111111000000101111111111111110 =
      some (.v3HeadF3 ⟨0, 0, 15, 0xFFF, 0, 15, 0xFFE⟩) := by decide

/-- 00uu11RL uuuuXXXX XXXXXXXX 00uu110u uuuuYYYY YYYYYYYY. -/
theorem test_decode_tail_f0 :
    decodeTableWord 48 0b001011011100000000000001000111011010000000000010 =
      some (.v3TailF0 ⟨2, 1, 12, 1, 1, 1, 10, 2⟩) := by decide

theorem test_decode_tail_f1 :
    decodeTableWord 48 0b010011000000000001100100000011010000000110010000 =
      some (.v3TailF1 ⟨0, 0, 0, 100, 0, 1, 0, 400⟩) := by decide

theorem test_decode_tail_f2 :
    decodeTableWord 48 0b100011000000000110010000000011000000000011001000 =
      some (.v3TailF2 ⟨0, 0, 0, 400, 0, 0, 0, 200⟩) := by decide

theorem test_decode_tail_f3 :
    decodeTableWord 48 0b110011000000000000000000000011000000000000000000 =
      some (.v3TailF3 ⟨0, 0, 0, 0, 0, 0, 0, 0⟩) := by decide

/-- [48 00 64 02 01 90]: B0 & 0x0C = 0x08 (95_test_vectors.md 2.4). -/
theorem test_decode_unknown :
    decodeTableWord 48 0b010010000000000001100100000000100000000110010000 =
      some (.v3Unknown 0x480064020190) := by decide

theorem test_decode_v1 :
    decodeTableWord 32 0b00100100000000010000001100000000 = some (.v1Frame 0x24010300) := by decide

theorem test_decode_v2 :
    decodeBytes (.frame .g2) [0x44, 0x00, 0x64, 0x02, 0x01, 0x90] = .ok (.v2Frame 0x440064020190) := by decide

theorem test_decode_v4 :
    decodeBytes (.frame .g4) [0xFF, 0x00, 0x00, 0x00, 0x00, 0x01] = .ok (.v4Frame 0xFF0000000001) := by decide

theorem test_decode_refuses_five_bytes :
    decodeBytes (.frame .g3) [0x04, 0x00, 0x00, 0x02, 0x00] = .error (.wrongLength (.frame .g3) 5) := by decide

theorem test_decode_refuses_config_high_bits :
    decodeBytes .portCfg [0x20, 0x00, 0x00, 0x00, 0x00] = .error .configHighBitsSet := by decide

/-! ## One step on a small state -/

/-- The outcome is a next state with the property. -/
def after (o : Host.Outcome State Fault Refusal) (p : State → Bool) : Bool :=
  match o with
  | .next t => p t
  | .fault _ => false
  | .refused _ => false

/-- After `load fw=0x050000 ymax=500` (95_test_vectors.md). -/
def loaded : State := { State.reset with profile := loadedProfile .g3 0x050000 500 .absent }

/-- After OV1: one finger at (100, 100) (95_test_vectors.md 2.6). -/
def oneDown : State :=
  { loaded with slot0 := ⟨true, 100, 100, true, 100, 100, true⟩, gesture := ⟨1, true, true, 100, 100⟩ }

/-- After OV7 and OV8: two fingers at (200, 300) and (400, 300). -/
def twoDown : State :=
  { loaded with
    slot0 := ⟨true, 200, 300, true, 200, 300, true⟩
    slot1 := ⟨true, 400, 300, true, 400, 300, true⟩
    gesture := ⟨2, true, false, 0, 0⟩ }

/-- After a one-finger contact went out of range (95_test_vectors.md 2.7, RV3). -/
def disqualified : State :=
  { loaded with slot0 := ⟨true, 133, 100, true, 100, 100, false⟩, gesture := ⟨1, false, true, 133, 100⟩ }

/-- The first five bytes of a frame received. -/
def received (s : State) (b0 b1 b2 b3 b4 : Byte) : State := { s with asm := ⟨#v[b0, b1, b2, b3, b4, 0], 5⟩ }

/-- The same state under another profile. -/
def under (s : State) (g : Generation) (fw : Firmware) (o : ParityOverride) : State :=
  { s with profile := loadedProfile g fw 500 o }

/-- FA1: the fifth byte. -/
theorem test_byte_in_partial :
    after (exec (.byteIn 0x07) { loaded with asm := ⟨#v[1, 2, 3, 4, 0, 0], 4⟩ })
      (fun t => t.asm == ⟨#v[1, 2, 3, 4, 7, 0], 5⟩ && t.status.verdict == .none && t.event.valid == false) = true := by
  decide

/-- FA6. -/
theorem test_byte_in_without_profile :
    after (exec (.byteIn 0x07) State.reset) (fun t => t.asm == State.reset.asm && t.event.valid == false) = true := by
  decide

/-- FA7 and the row 0x050000 of 95_test_vectors.md 2.1. -/
theorem test_cfg_load :
    after (exec (.cfgLoad 0x050000 500 .absent) (received oneDown 1 2 3 4 5))
      (fun t => t.profile == ⟨true, 0x050000, .g3, .six, 500, true, false, true⟩ && t.asm.cnt == 0 &&
        t.slot0.posValid == false && t.gesture.lastCount == 0) = true := by decide

/-- S5 and V1: indicator 3. -/
theorem test_cfg_load_detection_failure :
    after (exec (.cfgLoad 0x030000 500 .absent) oneDown)
      (fun t => t.profile.valid == false && t.gesture.lastCount == 0) = true := by decide

/-- OV13. -/
theorem test_debounce :
    after (exec (.byteIn 0xFF) (received oneDown 0xC4 0xFF 0xFF 0x02 0xFF))
      (fun t => t.status == ⟨.debounce, false⟩ && t.gesture == oneDown.gesture && t.slot0 == oneDown.slot0 &&
        t.event.valid == false) = true := by decide

/-- RV1: the left click. -/
theorem test_head_f0_left_click :
    after (exec (.byteIn 0x00) (received oneDown 0x04 0x00 0x00 0x02 0x00))
      (fun t => t.event == ⟨true, 0, 0, 0b01⟩ && t.slot0.startValid == false && t.gesture.tapToClick &&
        t.gesture.lastCount == 0) = true := by decide

/-- RV2: the right click. -/
theorem test_head_f0_right_click :
    after (exec (.byteIn 0x00) (received twoDown 0x04 0x00 0x00 0x02 0x00))
      (fun t => t.event == ⟨true, 0, 0, 0b10⟩) = true := by decide

/-- OV2. -/
theorem test_head_f1_motion :
    after (exec (.byteIn 0x8A) (received oneDown 0x45 0x00 0x6A 0x02 0x01))
      (fun t => t.event == ⟨true, 6, 6, 0b01⟩ && t.gesture.last? == some ⟨106, 106⟩ && t.slot0.tapInRange &&
        t.slot0.start? == some ⟨100, 100⟩) = true := by decide

/-- OV5: raw y above CFG_YMAX. -/
theorem test_head_f1_negative_y :
    after (exec (.byteIn 0x58) (received oneDown 0x44 0x00 0x64 0x02 0x02))
      (fun t => t.event.dx.toInt == 0 && t.event.dy.toInt == -200 && t.gesture.lastY.toInt == -100 &&
        t.slot0.tapInRange == false && t.gesture.tapToClick == false) = true := by decide

/-- OV7. -/
theorem test_head_f2 :
    after (exec (.byteIn 0xC8) (received loaded 0x84 0x00 0xC8 0x02 0x00))
      (fun t => t.slot0 == ⟨true, 200, 300, true, 200, 300, true⟩ && t.gesture == ⟨2, true, false, 0, 0⟩ &&
        t.slot1.posValid == false && t.event.valid == false) = true := by decide

/-- A malformed two-finger sample: x = 0 (42_position_decoder.md R107). -/
theorem test_head_f2_malformed :
    after (exec (.byteIn 0xC8) (received oneDown 0x84 0x00 0x00 0x02 0x00))
      (fun t => t.status == ⟨.head, true⟩ && t.gesture.lastCount == 2 && t.slot0 == oneDown.slot0) = true := by decide

/-- OV10. -/
theorem test_head_f3 :
    after (exec (.byteIn 0x10) (received oneDown 0xC4 0x00 0x10 0x02 0x00))
      (fun t => t.gesture == oneDown.gesture && t.slot0 == oneDown.slot0 && t.status == ⟨.head, false⟩ &&
        t.event.valid == false) = true := by decide

/-- RV3, with the physical right button. -/
theorem test_tail_f0_disqualified :
    after (exec (.byteIn 0x00) (received disqualified 0x0E 0x00 0x00 0x0C 0x00))
      (fun t => t.event == ⟨true, 0, 0, 0b10⟩ && t.gesture.tapToClick && t.status == ⟨.tail, false⟩) = true := by decide

/-- OV6. -/
theorem test_tail_f1 :
    after (exec (.byteIn 0x90) (received oneDown 0x4C 0x00 0x64 0x0C 0x01))
      (fun t => t.event == ⟨true, 0, 0, 0b00⟩ && t.gesture.lastCount == 1) = true := by decide

/-- OV9: a Tail without a Head. -/
theorem test_tail_f2 :
    after (exec (.byteIn 0xC8) (received loaded 0x8C 0x01 0x90 0x0C 0x00))
      (fun t => t.slot1 == ⟨true, 400, 300, true, 400, 300, true⟩ && t.slot0.posValid == false &&
        t.gesture.lastCount == 2) = true := by decide

theorem test_tail_f3 :
    after (exec (.byteIn 0x00) (received oneDown 0xCC 0x00 0x00 0x0C 0x00))
      (fun t => t.status == ⟨.tail, false⟩ && t.gesture == oneDown.gesture && t.event.valid == false) = true := by decide

/-- [00 00 00 00 00 00]. -/
theorem test_unknown :
    after (exec (.byteIn 0x00) (received oneDown 0x00 0x00 0x00 0x00 0x00))
      (fun t => t.status == ⟨.unknown, false⟩ && t.gesture == oneDown.gesture) = true := by decide

/-- `0x020022, parity=0`, frame [00 00 00 00] (95_test_vectors.md 2.5): the one row that rests on no positions. -/
theorem test_v1_check_disabled :
    after (exec (.byteIn 0x00) { under loaded .g1 0x020022 .forceZero with asm := ⟨#v[0, 0, 0, 0, 0, 0], 3⟩ })
      (fun t => t.status == ⟨.parityPass, false⟩ && t.asm.cnt == 0) = true := by decide

/-- FA8. -/
theorem test_v2 :
    after (exec (.byteIn 0x90) (received (under loaded .g2 0x020030 .absent) 0x44 0x00 0x64 0x02 0x01))
      (fun t => t.status == ⟨.unsupported, false⟩ && t.slot0.posValid == false && t.gesture.lastCount == 0 &&
        t.event.valid == false) = true := by decide

theorem test_v4 :
    after (exec (.byteIn 0x00) (received (under loaded .g4 0x060000 .absent) 0x04 0x00 0x00 0x02 0x00))
      (fun t => t.status == ⟨.unsupported, false⟩ && t.event.valid == false) = true := by decide

/-! ## Operations -/

/-- 95_test_vectors.md 2.1. -/
theorem test_generation_table :
    [0x000000, 0x02002F, 0x020030, 0x020600, 0x020601, 0x030000, 0x040000, 0x150000, 0x360000, 0x0F0000].map
        (fun fw : Firmware => genOf fw) =
      [some .g1, some .g1, some .g2, some .g1, some .g2, none, some .g2, some .g3, some .g4, none] := by decide

/-- 95_test_vectors.md 2.2. -/
theorem test_parity_table :
    [0x00, 0x01, 0x03, 0x07, 0x0F, 0x80, 0xAA, 0xFE, 0xFF].map (fun b : Byte => parityTable b) =
      [true, false, true, false, true, false, true, false, true] := by decide

/-- T1 to T6 (95_test_vectors.md 2.7): 32 is in range, 33 is out, per axis. -/
theorem test_threshold :
    [(⟨132, 100⟩ : Point), ⟨133, 100⟩, ⟨68, 100⟩, ⟨67, 100⟩, ⟨100, 133⟩, ⟨132, 132⟩].map (exceedsTapRadius ⟨100, 100⟩) =
      [false, true, false, true, true, false] := by decide

/-- 95_test_vectors.md 2.6, field vectors: raw 600 and 500 under 500, raw 1 and 0 under 0. -/
theorem test_validity :
    ((decodeSample 500 1 600).yInt, (decodeSample 500 1 600).isValid, (decodeSample 500 1 500).isValid,
      (decodeSample 0 1 1).isValid, (decodeSample 0 1 0).isValid) = (-100, true, false, true, false) := by decide

/-! ## The fetch interface -/

theorem test_fetch_byte_in :
    after (step (State.reset.withFetchWord 8 0x90)) (fun t => t.inputs == []) = true := by decide

theorem test_fetch_cfg_load :
    after (step (State.reset.withFetchWord 40 0x00A00003E8)) (fun t => t.profile.valid && t.profile.ymax == 500) = true := by
  decide

theorem test_fetch_head_f0 :
    after (step (State.reset.withFetchWord 48 0x040000020000)) (fun t => t.event.valid && t.status.verdict == .head) =
      true := by decide

theorem test_fetch_v1 :
    after (step (State.reset.withFetchWord 32 0x00000000))
      (fun t => t.profile.valid && t.asm.cnt == 0 && t.status.verdict == .parityPass) = true := by decide

/-! ## Witnesses: the hypotheses of the obligations can be met -/

/-- ResetClearsProfileAndDecodeState, WaitingAndPowerTransition (a reset). -/
theorem witness_reset_offered : ({ oneDown with inputs := [.reset] } : State).inputs = Transaction.reset :: [] := rfl

/-- GenerationFromFirmware, CfgLoadWritesProfile: both answers of GenOf, at the bounds. -/
theorem witness_genOf :
    genOf 0x02002F = some .g1 ∧ genOf 0x020030 = some .g2 ∧ genOf 0x05FFFF = some .g3 ∧ genOf 0x060000 = some .g4 ∧
      genOf 0x0FFFFF = none := by decide

/-- CfgLoadWritesProfile (BYTE_IN), EventExactlyForMotionOrRelease: a byte answers a next state. -/
theorem witness_byte_next : ∃ t, exec (.byteIn 0) oneDown = .next t := exec_next _ _

/-- ProfileWrittenOnlyByLoad: an instruction that is no load. -/
theorem witness_not_load :
    (∃ t, exec .v3Debounce oneDown = .next t) ∧ ∀ fw ymax o, Instr.v3Debounce ≠ .cfgLoad fw ymax o :=
  ⟨⟨_, rfl⟩, by simp⟩

/-- StepRunsOfferedTransaction, WaitingAndPowerTransition: each port. -/
theorem witness_offered :
    decodeTransaction (.port8 7) = some (.byteIn 7) ∧
      decodeTransaction (.portCfg 0) = some (.cfgLoad 0 0 .absent) ∧
      ({ loaded with inputs := [.port8 7] } : State).inputs = .port8 7 :: [] ∧
      ({ loaded with inputs := [.portCfg 0] } : State).inputs = .portCfg 0 :: [] ∧ loaded.power.stage = .intact := by decide

/-- After a power transition, and after the reset that follows it. -/
def powerLost : State := { loaded with power := ⟨.lost, 1⟩ }
def awaitingLoad : State := { State.reset with power := ⟨.awaitingLoad, 1⟩ }

/-- WaitingAndPowerTransition: each of its cases, a reset in each of the three stages. -/
theorem witness_waiting :
    loaded.inputs = [] ∧
      ({ loaded with inputs := [.powerTransition] } : State).inputs = .powerTransition :: [] ∧
      ({ powerLost with inputs := [.port8 7] } : State).inputs = .port8 7 :: [] ∧ powerLost.power.stage = .lost ∧
      decodeTransaction (.port8 7) = some (.byteIn 7) ∧
      ({ powerLost with inputs := [.reset] } : State).inputs = .reset :: [] ∧
      ({ awaitingLoad with inputs := [.port8 7] } : State).inputs = .port8 7 :: [] ∧
      ({ awaitingLoad with inputs := [.portCfg 0] } : State).inputs = .portCfg 0 :: [] ∧
      awaitingLoad.power.stage = .awaitingLoad ∧ loaded.power.stage = .intact := by decide

/-- 60_exceptions.md R159: a load between the power transition and the reset is not accepted. -/
theorem test_power_lost_stops_load :
    step { powerLost with inputs := [.portCfg 0] } = .fault .stateLostByPowerTransition := rfl

/-- 60_exceptions.md R159: "a new CFG_LOAD before the next byte". -/
theorem test_byte_before_load_stops :
    step { awaitingLoad with inputs := [.port8 7] } = .fault .noLoadSincePowerTransition := rfl

theorem test_load_ends_power_transition :
    after (step { awaitingLoad with inputs := [.portCfg 0x00A00003E8, .port8 7] })
      (fun t => t.power == ⟨.intact, 1⟩ && t.profile.valid && t.inputs == [.port8 7]) = true := by decide

theorem test_reset_after_power_transition :
    after (step { powerLost with inputs := [.reset] })
      (fun t => t.power == ⟨.awaitingLoad, 1⟩ && t.profile.valid == false) = true := by decide

/-- ResetAndLoadEndPowerTransition: what the host applies, with a byte and a second load after it; and the byte too early. -/
theorem witness_reset_and_load :
    ({ oneDown with inputs := [.powerTransition, .reset, .portCfg 0, .port8 7, .portCfg 1] } : State).inputs =
        .powerTransition :: .reset :: .portCfg 0 :: [.port8 7, .portCfg 1] ∧
      powerStays [.port8 7, .portCfg 1] ∧
      ({ oneDown with inputs := [.powerTransition, .reset, .port8 7] } : State).inputs =
        .powerTransition :: .reset :: .port8 7 :: [] := by
  refine ⟨rfl, ?_, rfl⟩
  intro t ht
  simp only [List.mem_cons, List.not_mem_nil, or_false] at ht
  rcases ht with rfl | rfl <;> decide

/-- ParityLayoutsDiffer: firmware at the bound, on both sides, and two on each side. -/
theorem witness_parity_bound :
    (0x01FFFF#24 : Firmware).toNat < 0x020000 ∧ 0x020000 ≤ (0x020000#24 : Firmware).toNat ∧
      ((0x000000#24 : Firmware).toNat < 0x020000 ↔ (0x01FFFF#24 : Firmware).toNat < 0x020000) ∧
      ((0x020000#24 : Firmware).toNat < 0x020000 ↔ (0xFFFFFF#24 : Firmware).toNat < 0x020000) := by decide

/-- BytesWithoutProfileDiscarded, SinkTakesEmittedEvent (no event). -/
theorem witness_without_profile :
    State.reset.profile.valid = false ∧ ∃ t, exec (.byteIn 7) State.reset = .next t := ⟨rfl, exec_next _ _⟩

/-- PartialFrameStoresOneByte: the last byte but one, of six and of four. -/
theorem witness_partial :
    (let s : State := { loaded with asm := ⟨#v[1, 2, 3, 4, 0, 0], 4⟩ }
     s.profile.valid = true ∧ s.asm.cnt.val + 1 < s.profile.pktsize.toNat) ∧
    (let s : State := { under loaded .g1 0 .absent with asm := ⟨#v[1, 2, 0, 0, 0, 0], 2⟩ }
     s.profile.valid = true ∧ s.asm.cnt.val + 1 < s.profile.pktsize.toNat) := by decide

/-- ByteInRunsCompletedFrame, CompletedFrameIsConsumedOnce, VerdictAtFrameCompletion, MalformedExactlyForInvalidSample,
LastCountAtFrameCompletion: a completing byte under each generation, and the most further bytes that complete nothing. -/
theorem witness_complete :
    (∀ g ∈ [Generation.g2, .g3, .g4],
      let s := received (under loaded g 0 .absent) 4 0 0 2 0
      s.profile.valid = true ∧ s.profile.gen = g ∧ s.asm.cnt.val + 1 = s.profile.pktsize.toNat) ∧
    (let s : State := { under loaded .g1 0 .absent with asm := ⟨#v[1, 2, 3, 0, 0, 0], 3⟩ }
     s.profile.valid = true ∧ s.profile.gen = .g1 ∧ s.asm.cnt.val + 1 = s.profile.pktsize.toNat) ∧
    ([1, 2, 3, 4, 5] : List Byte).length < (received loaded 4 0 0 2 0).profile.pktsize.toNat := by decide

theorem witness_complete_next : ∃ t, exec (.byteIn 0) (received oneDown 4 0 0 2 0) = .next t := exec_next _ _

/-- VerdictAtFrameCompletion: a byte that completes no frame. -/
theorem witness_incomplete :
    ¬ (oneDown.profile.valid = true ∧ oneDown.asm.cnt.val + 1 = oneDown.profile.pktsize.toNat) := by decide

/-- WholeFrameInArrivalOrder: a frame boundary under each length. -/
theorem witness_boundary :
    (loaded.profile.valid = true ∧ loaded.asm.cnt = 0 ∧ loaded.profile.pktsize = .six) ∧
      ((under loaded .g1 0 .absent).profile.valid = true ∧ (under loaded .g1 0 .absent).asm.cnt = 0 ∧
        (under loaded .g1 0 .absent).profile.pktsize = .four) := by decide

/-- FramingByByteCount: two bytes offered with five held, so that a frame ends inside. -/
theorem witness_framing :
    let s : State := { received loaded 4 0 0 2 0 with inputs := [.port8 0, .port8 7] }
    s.profile.valid = true ∧ s.asm.cnt.val < s.profile.pktsize.toNat ∧ s.power.stage = .intact ∧
      s.inputs = ([0, 7] : List Byte).map Transaction.port8 := by decide

/-- EveryInputSequenceAccepted: bytes, a load and a reset. -/
theorem witness_inputs :
    let s : State := { loaded with inputs := [.port8 0, .portCfg 0, .reset] }
    s.power.stage = .intact ∧ powerStays s.inputs := by
  refine ⟨rfl, ?_⟩
  intro t ht
  simp only [List.mem_cons, List.not_mem_nil, or_false] at ht
  rcases ht with rfl | rfl | rfl <;> decide

/-- DecodeOfEncode: well-formed instructions at the edges of the priority. -/
theorem witness_wf :
    (Instr.v3HeadF3 ⟨0, 0, 15, 0xFFF, 0, 15, 0xFFE⟩).wf = true ∧ (Instr.v3Unknown 0).wf = true ∧
      (Instr.v3TailF3 ⟨3, 3, 15, 0xFFF, 3, 1, 15, 0xFFF⟩).wf = true := by decide

/-- EncodeOfDecode: bytes that decode, one for each format. -/
theorem witness_decodes :
    decodeBytes .port8 [0xFF] = .ok (.byteIn 0xFF) ∧
      decodeBytes .portCfg [0x1F, 0xFF, 0xFF, 0xFF, 0xFF] = .ok (.cfgLoad 0xFFFFFF 0xFFF .forceZero) ∧
      decodeBytes (.frame .g1) [1, 2, 3, 4] = .ok (.v1Frame 0x01020304) ∧
      decodeBytes (.frame .g2) [1, 2, 3, 4, 5, 6] = .ok (.v2Frame 0x010203040506) ∧
      decodeBytes (.frame .g3) [0xC4, 0xFF, 0xFF, 0x02, 0xFF, 0xFF] = .ok .v3Debounce ∧
      decodeBytes (.frame .g4) [1, 2, 3, 4, 5, 6] = .ok (.v4Frame 0x010203040506) := by decide

/-- DecoderRefusesOtherLengths: five and seven bytes for a 6-byte frame. -/
theorem witness_lengths : ([1, 2, 3, 4, 5] : List Byte).length ≠ 6 ∧ ([1, 2, 3, 4, 5, 6, 7] : List Byte).length ≠ 6 := by
  decide

/-- EncoderWritesFrameBytes: the raw y of a negative decoded y, and of the largest one. -/
theorem witness_raw_y :
    ((4095 : BitVec 12).toNat : Int) = ((0 : BitVec 12).toNat : Int) - (-4095) ∧
      ((0 : BitVec 12).toNat : Int) = ((4095 : BitVec 12).toNat : Int) - 4095 := by decide

/-- PlacedWordIsRunNext: a word of each width. -/
theorem witness_placed :
    (decodeTableWord 8 255).isSome ∧ (decodeTableWord 37 0).isSome ∧ (decodeTableWord 40 (2 ^ 37 - 1)).isSome ∧
      (decodeTableWord 32 0).isSome ∧ (decodeTableWord 48 (2 ^ 48 - 1)).isSome := by decide

/-- OneFingerFrameEffect, TwoFingerFrameEffect: a valid and an invalid sample, with and without a last point, on a free
and on a latched slot, in range at 32 and out of it at 33. -/
theorem witness_samples :
    SampleValid loaded 1 499 ∧ ¬ SampleValid loaded 0 499 ∧ ¬ SampleValid loaded 1 500 ∧
      loaded.gesture.lastValid = false ∧ oneDown.gesture.lastValid = true ∧
      loaded.slot0.startValid = false ∧ oneDown.slot0.startValid = true ∧ twoDown.slot1.startValid = true ∧
      SampleValid oneDown 133 400 ∧ 32 < ((133 : Int) - (oneDown.slot0.startX.toNat : Int)).natAbs ∧
      SampleValid oneDown 132 432 ∧
      ¬ (32 < ((132 : Int) - (oneDown.slot0.startX.toNat : Int)).natAbs ∨
        32 < (invertedY oneDown 432 - oneDown.slot0.startY.toInt).natAbs) := by decide

/-- UninterpretedBitsHaveNoEffect, HeadAndTailDecodeAlike: different frames of equal operands. -/
theorem witness_equal_operands :
    let f : HeadFields := ⟨0, 1, 0, 100, 0, 0, 400⟩
    let g : HeadFields := ⟨3, 1, 15, 100, 3, 15, 400⟩
    let h : TailFields := ⟨3, 1, 15, 100, 3, 1, 15, 400⟩
    f ≠ g ∧ f.buttons = g.buttons ∧ f.x = g.x ∧ f.yraw = g.yraw ∧ f.buttons = h.buttons ∧ f.x = h.x ∧ f.yraw = h.yraw := by
  decide

/-- UninterpretedBitsHaveNoEffect: two Tail frames. -/
theorem witness_equal_tail_operands :
    let f : TailFields := ⟨0, 1, 0, 100, 0, 0, 0, 400⟩
    let g : TailFields := ⟨3, 1, 15, 100, 3, 1, 15, 400⟩
    f ≠ g ∧ f.buttons = g.buttons ∧ f.x = g.x ∧ f.yraw = g.yraw := by decide

/-- VerdictDependsOnFrameAlone: two different states that complete the same frame. -/
theorem witness_same_frame :
    let s := received oneDown 4 0 0 2 0
    let s' := received loaded 4 0 0 2 0
    s ≠ s' ∧ s.profile.valid = true ∧ s'.profile.valid = true ∧ s.profile.gen = .g3 ∧ s'.profile.gen = .g3 ∧
      s.asm.cnt.val + 1 = s.profile.pktsize.toNat ∧ s'.asm.cnt.val + 1 = s'.profile.pktsize.toNat ∧
      bufferWith 9 s = bufferWith 9 s' := by decide

theorem witness_same_frame_next :
    (∃ t, exec (.byteIn 9) (received oneDown 4 0 0 2 0) = .next t) ∧
      ∃ t, exec (.byteIn 9) (received loaded 4 0 0 2 0) = .next t := ⟨exec_next _ _, exec_next _ _⟩

/-- DecodedValuesAreExact: samples at the ends of their ranges, valid ones. -/
theorem witness_valid_samples :
    (decodeSample 4095 1 0).isValid = true ∧ (decodeSample 0 4095 4095).isValid = true ∧
      (decodeSample 4095 4095 0).yInt - (decodeSample 0 1 4095).yInt = 8190 := by decide

/-- DecodedValuesAreExact (the event), LastPointSurvivesTwoFingers: a valid sample with a last point. -/
theorem witness_motion :
    SampleValid oneDown 106 394 ∧ oneDown.gesture.lastValid = true ∧
      OneFingerRow (.v3TailF1 ⟨0, 1, 0, 106, 0, 0, 0, 394⟩) 106 394 1 ∧
      ∃ t, exec (.v3TailF1 ⟨0, 1, 0, 106, 0, 0, 0, 394⟩) oneDown = .next t :=
  ⟨by decide, rfl, .inr ⟨_, rfl, rfl, rfl, rfl⟩, exec_next _ _⟩

/-- LastPointSurvivesTwoFingers: a list of two-finger rows. -/
theorem witness_two_finger_rows :
    ∀ i ∈ [Instr.v3HeadF2 ⟨0, 0, 0, 200, 0, 0, 200⟩, .v3TailF2 ⟨0, 0, 0, 400, 0, 0, 0, 200⟩],
      (∃ g, i = .v3HeadF2 g) ∨ ∃ g, i = .v3TailF2 g := by simp

/-- SinkTakesEmittedEvent: the largest deltas. -/
theorem witness_deltas : (-4094 : Int).natAbs ≤ 8190 ∧ (-8190 : Int).natAbs ≤ 8190 := by decide

/-- DisqualificationIsOneWay: a byte that completes a one-finger frame, on a disqualified contact. -/
theorem witness_one_way :
    let s := received disqualified 0x44 0x00 0x64 0x02 0x01
    s.gesture.tapToClick = false ∧ (s.slot .s0).startValid = true ∧ (s.slot .s0).tapInRange = false ∧
      s.profile.valid = true ∧ s.asm.cnt.val + 1 = s.profile.pktsize.toNat ∧ s.profile.gen = .g3 ∧
      Decoded (wordIn (bufferWith 0x90 s)) ∧ fingersOf (wordIn (bufferWith 0x90 s)) ≠ 0 := by decide

theorem witness_one_way_next : ∃ t, exec (.byteIn 0x90) (received disqualified 0x44 0x00 0x64 0x02 0x01) = .next t :=
  exec_next _ _

/-- DisqualificationIsOneWay: TAP_IN_RANGE rises at a latch. -/
theorem witness_latch :
    loaded.slot0.tapInRange = false ∧
      after (exec (.v3HeadF1 ⟨0, 0, 0, 100, 0, 0, 400⟩) loaded) (fun t => t.slot0.tapInRange) = true := by decide

/-- DisqualifiedContactNeverClicks: frames that are no release, after a disqualification. -/
theorem witness_never_clicks :
    disqualified.gesture.tapToClick = false ∧
      ∀ i ∈ [Instr.v3HeadF1 ⟨0, 0, 0, 100, 0, 0, 400⟩, .v3Debounce, .v3TailF2 ⟨0, 0, 0, 400, 0, 0, 0, 200⟩],
        keepsContact i = true := by decide

/-- DisqualifiedContactNeverClicks, StationaryHoldStillClicks: a release of each class. -/
theorem witness_release_rows :
    ReleaseRow (.v3HeadF0 ⟨0, 2, 0, 0, 0, 0, 0⟩) 2 ∧ ReleaseRow (.v3TailF0 ⟨0, 0, 0, 0, 0, 0, 0, 0⟩) 0 :=
  ⟨.inl ⟨_, rfl, rfl⟩, .inr ⟨_, rfl, rfl⟩⟩

/-- StationaryHoldStillClicks: a contact at (100, 100) with two samples at the edge of the range. -/
theorem witness_stationary :
    loaded.slot0.startValid = false ∧ loaded.slot1.startValid = false ∧ loaded.gesture.tapToClick = true ∧
      OneFingerRow (.v3HeadF1 ⟨0, 0, 0, 100, 0, 0, 400⟩) 100 400 0 ∧ SampleValid loaded 100 400 ∧
      ∀ i ∈ [Instr.v3HeadF1 ⟨0, 0, 0, 132, 0, 0, 368⟩, .v3TailF1 ⟨0, 0, 0, 68, 0, 0, 0, 432⟩],
        NearOneFinger loaded ((100 : BitVec 12).toNat : Int) (invertedY loaded 400) i := by
  refine ⟨rfl, rfl, rfl, .inl ⟨_, rfl, rfl, rfl, rfl⟩, by decide, ?_⟩
  intro i hi
  simp only [List.mem_cons, List.not_mem_nil, or_false] at hi
  rcases hi with rfl | rfl
  · exact ⟨132, 368, 0, .inl ⟨_, rfl, rfl, rfl, rfl⟩, by decide, by decide, by decide⟩
  · exact ⟨68, 432, 0, .inr ⟨_, rfl, rfl, rfl, rfl⟩, by decide, by decide, by decide⟩

/-- OtherGenerationsDecodeNothing. -/
theorem witness_other_generations :
    (under loaded .g1 0 .absent).profile.gen ≠ .g3 ∧ (under loaded .g2 0 .absent).profile.gen ≠ .g3 ∧
      (under loaded .g4 0 .absent).profile.gen ≠ .g3 := by decide

/-- ResetHasInvariant: a state that differs from reset in every group of unspecified registers. -/
theorem witness_reset_alike :
    let s : State :=
      { State.reset with
        profile := ⟨false, 7, .g3, .six, 9, true, true, true⟩
        asm := ⟨#v[1, 2, 3, 4, 5, 6], 0⟩
        slot0 := ⟨false, 1, 2, false, 3, 4, false⟩
        gesture := ⟨0, true, false, 5, 6⟩ }
    s ≠ State.reset ∧ State.reset.Alike s := by
  refine ⟨by decide, ?_⟩
  constructor <;> decide

/-- StepKeepsInvariant: a state with two contacts, a partial frame and a byte offered. -/
theorem witness_invariant :
    State.Inv { received twoDown 0x04 0x00 0x00 0x02 0x00 with inputs := [.port8 0] } :=
  ⟨fun _ => by constructor <;> decide, by decide⟩

/-- StepKeepsInvariant: the two stages after a power transition, with what ends each offered. -/
theorem witness_invariant_after_power_transition :
    State.Inv { powerLost with inputs := [.reset] } ∧ State.Inv { awaitingLoad with inputs := [.portCfg 0] } :=
  ⟨⟨fun h => absurd rfl h, by decide⟩, ⟨fun _ => by constructor <;> decide, by decide⟩⟩

theorem witness_invariant_step :
    after (step { received twoDown 0x04 0x00 0x00 0x02 0x00 with inputs := [.port8 0] }) (fun _ => true) = true := by
  decide

/-- UnspecifiedRegistersHaveNoInfluence: two states that differ in every group of unspecified registers, and the two
outcomes of a step. -/
theorem witness_alike :
    let s : State := { State.reset with inputs := [.portCfg 0x00A00003E8] }
    let s' : State :=
      { s with
        profile := ⟨false, 7, .g3, .six, 9, true, true, true⟩
        asm := ⟨#v[1, 2, 3, 4, 5, 6], 0⟩
        slot0 := ⟨false, 1, 2, false, 3, 4, false⟩
        gesture := ⟨0, true, false, 5, 6⟩ }
    s ≠ s' ∧ (s.power.stage ≠ .lost → s.profile.consistent) ∧ s.Alike s' ∧ after (step s) (fun _ => true) = true := by
  refine ⟨by decide, by decide, ?_, by decide⟩
  constructor <;> decide

/-- UnspecifiedRegistersHaveNoInfluence: the two faults. -/
theorem witness_alike_fault :
    step { powerLost with inputs := [.port8 0] } = .fault .stateLostByPowerTransition ∧
      step { awaitingLoad with inputs := [.port8 0] } = .fault .noLoadSincePowerTransition := ⟨rfl, rfl⟩

end Sys2Proof.Tests
end

section
/-!
SUPPORT. The proofs of family 00_scope.md: every run over bytes, loads and resets completes, and the registers the spec
leaves unspecified influence nothing.
-/

namespace Sys2Proof.Machine

/-! ## Runs over bytes, loads and resets -/

/-- No instruction writes the queue or the record of power transitions (log 2, log 11). -/
theorem exec_keeps_inputs_power (i : Instr) (s t : State) (h : exec i s = .next t) :
    t.inputs = s.inputs ∧ t.power = s.power := by
  cases i with
  | byteIn v =>
    change execByteIn v s = _ at h
    cases hv : s.profile.valid with
    | false =>
      rw [execByteIn_discarded v s hv] at h
      cases h
      exact ⟨rfl, rfl⟩
    | true =>
      cases hc : completesFrame s with
      | false =>
        rw [execByteIn_partial v s hv hc] at h
        cases h
        exact ⟨rfl, rfl⟩
      | true =>
        rw [execByteIn_complete v s hv hc] at h
        obtain ⟨hb, hl⟩ := decodeFrame_is_row s.profile.gen (bufferWith v s)
        obtain ⟨hinputs, hpower, -, -⟩ := frameRow_frame _ _ t hb hl h
        exact ⟨hinputs, hpower⟩
  | cfgLoad fw ymax o =>
    cases h
    exact ⟨rfl, rfl⟩
  | _ =>
    obtain ⟨hinputs, hpower, -, -⟩ := frameRow_frame _ s t (by simp) (by simp) h
    exact ⟨hinputs, hpower⟩

/-- With no power transition behind the block or offered to it, a step answers a next state, and the same holds of that
state (60_exceptions.md R150). -/
theorem step_next_of_powerStays (s : State) (hp : s.power.stage = .intact) (hq : powerStays s.inputs) :
    ∃ t, step s = .next t ∧ t.power.stage = .intact ∧ powerStays t.inputs := by
  rcases hs : s.inputs with _ | ⟨tr, rest⟩
  · exact ⟨s, step_idle s hs, hp, hq⟩
  · rw [hs] at hq
    have hrest : powerStays rest := fun t ht => hq t (List.mem_cons_of_mem tr ht)
    cases hd : decodeTransaction tr with
    | some i =>
      obtain ⟨t, ht⟩ := exec_next i (s.setInputs rest)
      obtain ⟨hinputs, hpower⟩ := exec_keeps_inputs_power i _ t ht
      refine ⟨t, (step_port_intact s tr rest i hs hd hp).trans ht, ?_, ?_⟩
      · rw [hpower]; exact hp
      · rw [hinputs]; exact hrest
    | none =>
      cases tr with
      | port8 v => cases hd
      | portCfg c => cases hd
      | reset => exact ⟨_, step_reset s rest hs, by simp [hp], hrest⟩
      | powerTransition => exact absurd rfl (hq _ List.mem_cons_self)

/-! ## Alike states: what their operands and conditions share -/

section
variable {s s' : State}

theorem State.Alike.slot (h : s.Alike s') (k : SlotId) : (s.slot k).alike (s'.slot k) := by
  cases k
  · exact h.slot0
  · exact h.slot1

theorem FingerTrack.alike.allowsTap {t u : FingerTrack} (h : t.alike u) : t.allowsTap = u.allowsTap := by
  obtain ⟨-, hstart, hrange, -, -⟩ := h
  simp only [FingerTrack.allowsTap, hstart, hrange]

theorem FingerTrack.idle_alike_idle (t u : FingerTrack) : t.idle.alike u.idle := ⟨rfl, rfl, rfl, rfl, rfl⟩

theorem State.Alike.tapEligible (h : s.Alike s') : tapEligible s = tapEligible s' := by
  simp only [Machine.tapEligible, h.lastCount, h.tapToClick, h.slot0.allowsTap, h.slot1.allowsTap]

theorem State.Alike.releaseTapBit (h : s.Alike s') : releaseTapBit s = releaseTapBit s' := by
  simp only [Machine.releaseTapBit, h.tapEligible, h.lastCount]

theorem State.Alike.completesFrame (h : s.Alike s') (hp : s.profile = s'.profile) :
    completesFrame s = completesFrame s' := by
  simp only [Machine.completesFrame, h.cnt, hp]

/-- The byte of a BYTE_IN is stored behind the bytes received, so the buffers agree up to it. -/
theorem State.Alike.bufferWith (h : s.Alike s') (v : Byte) (j : Fin 6) (hj : j ≤ s.asm.cnt) :
    (bufferWith v s)[j.val] = (bufferWith v s')[j.val] := by
  simp only [Machine.bufferWith, Vector.getElem_set, ← h.cnt]
  split
  · rfl
  · next hne => exact h.received j (by omega)

/-- A row reads no more of the frame buffer than its generation's frame (40_frame_assembly.md R73). -/
theorem decodeFrame_congr (g : Generation) (fb fb' : Vector Byte 6)
    (h : ∀ j : Fin 6, j.val < (frameLengthOf g).toNat → fb[j.val] = fb'[j.val]) :
    decodeFrame g fb = decodeFrame g fb' := by
  have h0 : fb[0] = fb'[0] := h 0 (by cases g <;> decide)
  have h1 : fb[1] = fb'[1] := h 1 (by cases g <;> decide)
  have h2 : fb[2] = fb'[2] := h 2 (by cases g <;> decide)
  have h3 : fb[3] = fb'[3] := h 3 (by cases g <;> decide)
  have word : 5 < (frameLengthOf g).toNat →
      frameWord fb[0] fb[1] fb[2] fb[3] fb[4] fb[5] = frameWord fb'[0] fb'[1] fb'[2] fb'[3] fb'[4] fb'[5] := by
    intro hlen
    have h4 : fb[4] = fb'[4] := h 4 (Nat.lt_of_succ_lt hlen)
    have h5 : fb[5] = fb'[5] := h 5 hlen
    rw [h0, h1, h2, h3, h4, h5]
  cases g with
  | g1 => simp only [decodeFrame, h0, h1, h2, h3]
  | g2 => simp only [decodeFrame, word (by decide)]
  | g3 => simp only [decodeFrame, word (by decide)]
  | g4 => simp only [decodeFrame, word (by decide)]

/-! ## Alike states: every operation keeps them alike -/

theorem State.Alike.setInputs (h : s.Alike s') (l : List Transaction) : (s.setInputs l).Alike (s'.setInputs l) :=
  { h with inputs := rfl }

theorem State.Alike.accept (h : s.Alike s') (l : List Transaction) : (s.accept l).Alike (s'.accept l) :=
  { h with inputs := rfl, power := by simp [h.power] }

theorem State.Alike.setSlot (h : s.Alike s') (k : SlotId) {t u : FingerTrack} (ht : t.alike u) :
    (s.setSlot k t).Alike (s'.setSlot k u) := by
  cases k
  · exact { h with slot0 := ht }
  · exact { h with slot1 := ht }

theorem State.Alike.beginFrame (h : s.Alike s') (v : Verdict) : (beginFrame v s).Alike (beginFrame v s') :=
  { h with status := rfl }

theorem State.Alike.markMalformed (h : s.Alike s') : (markMalformed s).Alike (markMalformed s') :=
  { h with status := by simp [h.status] }

theorem State.Alike.clearStrobe (h : s.Alike s') : (clearStrobe s).Alike (clearStrobe s') :=
  { h with event := by simp [h.event] }

theorem State.Alike.writeDiagnostics (h : s.Alike s') (w : FrameWord) :
    (writeDiagnostics w s).Alike (writeDiagnostics w s') :=
  { h with diag := rfl }

theorem State.Alike.emit (h : s.Alike s') (dx dy : Int) (b : BitVec 2) : (emit dx dy b s).Alike (emit dx dy b s') :=
  { h with event := rfl }

theorem State.Alike.setLastCount (h : s.Alike s') (n : BitVec 2) : (setLastCount n s).Alike (setLastCount n s') :=
  { h with lastCount := rfl }

theorem State.Alike.setLast (h : s.Alike s') (p : Point) : (setLast p s).Alike (setLast p s') :=
  { h with lastValid := rfl, last := rfl }

theorem State.Alike.setPos (h : s.Alike s') (k : SlotId) (p : Point) : (setPos k p s).Alike (setPos k p s') := by
  obtain ⟨-, hstart, hrange, -, hstart?⟩ := h.slot k
  exact h.setSlot k ⟨rfl, hstart, hrange, rfl, hstart?⟩

theorem State.Alike.latchStart (h : s.Alike s') (k : SlotId) (p : Point) :
    (latchStart k p s).Alike (latchStart k p s') := by
  obtain ⟨hpos, -, -, hpos?, -⟩ := h.slot k
  exact h.setSlot k ⟨hpos, rfl, rfl, hpos?, rfl⟩

theorem State.Alike.disqualify (h : s.Alike s') (k : SlotId) : (disqualify k s).Alike (disqualify k s') := by
  obtain ⟨hpos, hstart, -, hpos?, hstart?⟩ := h.slot k
  have hslot := h.setSlot k (t := { s.slot k with tapInRange := false }) (u := { s'.slot k with tapInRange := false })
    ⟨hpos, hstart, rfl, hpos?, hstart?⟩
  exact { hslot with lastCount := h.lastCount, tapToClick := rfl, lastValid := h.lastValid, last := h.last }

theorem State.Alike.tapCompare (h : s.Alike s') (k : SlotId) (start p : Point) :
    (tapCompare k start p s).Alike (tapCompare k start p s') := by
  unfold Machine.tapCompare
  split
  · exact h.disqualify k
  · exact h

/-- The start point is read through its validity flag, so alike slots latch or compare alike (00_scope.md R5). -/
theorem State.Alike.tapTrack (h : s.Alike s') (k : SlotId) (p : Point) :
    (tapTrack k p s).Alike (tapTrack k p s') := by
  obtain ⟨-, -, -, -, hstart?⟩ := h.slot k
  unfold Machine.tapTrack
  rw [← hstart?]
  cases (s.slot k).start? with
  | none => exact h.latchStart k p
  | some start => exact h.tapCompare k start p

/-- The last point is read through its validity flag, so alike states emit the same motion (00_scope.md R5). -/
theorem State.Alike.emitMotion (h : s.Alike s') (p : Point) (b : BitVec 2) :
    (emitMotion p b s).Alike (emitMotion p b s') := by
  unfold Machine.emitMotion
  rw [← h.last]
  cases s.gesture.last? with
  | none => exact h
  | some last => exact h.emit _ _ b

theorem State.Alike.consumeTap (h : s.Alike s') : (consumeTap s).Alike (consumeTap s') := by
  unfold Machine.consumeTap
  rw [← h.tapEligible]
  split
  · exact { h with tapToClick := rfl }
  · exact h

theorem State.Alike.releaseReset (h : s.Alike s') : (releaseReset s).Alike (releaseReset s') :=
  { h with
    slot0 := FingerTrack.idle_alike_idle _ _
    slot1 := FingerTrack.idle_alike_idle _ _
    tapToClick := rfl
    lastValid := rfl
    last := rfl }

theorem State.Alike.decodeReset (h : s.Alike s') : (decodeReset s).Alike (decodeReset s') :=
  { h with
    cnt := rfl
    received := fun j hj => absurd hj (Nat.not_lt_zero j)
    slot0 := FingerTrack.idle_alike_idle _ _
    slot1 := FingerTrack.idle_alike_idle _ _
    lastCount := rfl
    tapToClick := rfl
    lastValid := rfl
    last := rfl
    status := rfl
    event := rfl
    diag := rfl }

theorem State.Alike.fullReset (h : s.Alike s') : (fullReset s).Alike (fullReset s') :=
  { h.decodeReset with
    profileValid := rfl
    profile := fun hv => Bool.noConfusion hv
    power := by simp [h.power] }

/-- A power transition replaces every register by a free value, the same in two states with the same record of power
transitions (log 19). -/
theorem losePower_eq (hi : s.inputs = s'.inputs) (hp : s.power = s'.power) : losePower s = losePower s' := by
  simp only [losePower, hi, hp]

theorem FingerTrack.alike.refl (t : FingerTrack) : t.alike t := ⟨rfl, rfl, rfl, rfl, rfl⟩

theorem State.Alike.refl (s : State) : s.Alike s where
  profileValid := rfl
  profile _ := rfl
  cnt := rfl
  received _ _ := rfl
  slot0 := .refl _
  slot1 := .refl _
  lastCount := rfl
  tapToClick := rfl
  lastValid := rfl
  last := rfl
  status := rfl
  event := rfl
  diag := rfl
  inputs := rfl
  power := rfl

/-- After a byte is stored, the bytes received are at most those up to the place it was stored at. -/
theorem le_cnt_of_lt_storeByte_cnt {v : Byte} {j : Fin 6} (hj : j < (storeByte v s).asm.cnt) : j ≤ s.asm.cnt := by
  rw [storeByte_asm] at hj
  dsimp only at hj
  split at hj
  · exact absurd hj (Nat.not_lt_zero j)
  · exact Nat.le_of_lt_succ (Nat.lt_of_lt_of_le hj (Nat.mod_le _ _))

theorem State.Alike.storeByte (h : s.Alike s') (hp : s.profile = s'.profile) (v : Byte) :
    (storeByte v s).Alike (storeByte v s') :=
  { h with
    cnt := by simp only [storeByte_asm, h.completesFrame hp, h.cnt]
    received := fun j hj => h.bufferWith v j (le_cnt_of_lt_storeByte_cnt hj) }

/-! ## Alike states: the rows and the port transactions -/

theorem State.Alike.decodeF0 (h : s.Alike s') (b : BitVec 2) : (decodeF0 b s).Alike (decodeF0 b s') := by
  unfold Machine.decodeF0
  rw [← h.releaseTapBit]
  exact ((h.consumeTap.emit 0 0 _).releaseReset).setLastCount 0

theorem State.Alike.decodeF1 (h : s.Alike s') (hp : s.profile = s'.profile) (x yraw : BitVec 12) (b : BitVec 2) :
    (decodeF1 x yraw b s).Alike (decodeF1 x yraw b s') := by
  unfold Machine.decodeF1
  rw [← hp]
  refine State.Alike.setLastCount ?_ 1
  split
  · exact (((h.emitMotion _ b).setLast _).setPos .s0 _).tapTrack .s0 _
  · exact h.markMalformed

theorem State.Alike.decodeF2 (h : s.Alike s') (hp : s.profile = s'.profile) (k : SlotId) (x yraw : BitVec 12) :
    (decodeF2 k x yraw s).Alike (decodeF2 k x yraw s') := by
  unfold Machine.decodeF2
  rw [← hp]
  refine State.Alike.setLastCount ?_ 2
  split
  · exact (h.setPos k _).tapTrack k _
  · exact h.markMalformed

theorem State.Alike.enterHead (h : s.Alike s') (n : BitVec 2) (f : HeadFields) :
    (enterHead n f s).Alike (enterHead n f s') := (h.beginFrame .head).writeDiagnostics _

theorem State.Alike.enterTail (h : s.Alike s') (n : BitVec 2) (f : TailFields) :
    (enterTail n f s).Alike (enterTail n f s') := (h.beginFrame .tail).writeDiagnostics _

end

/-- The second outcome answers the first: alike next states, or the same fault. -/
def OutcomesAlike (o o' : Host.Outcome State Fault Refusal) : Prop :=
  (∀ t, o = .next t → ∃ t', o' = .next t' ∧ t.Alike t') ∧ (∀ r, o = .fault r → o' = .fault r)

theorem OutcomesAlike.next {t t' : State} (h : t.Alike t') : OutcomesAlike (.next t) (.next t') := by
  refine ⟨fun u hu => ?_, fun r hr => nomatch hr⟩
  cases hu
  exact ⟨t', rfl, h⟩

theorem OutcomesAlike.fault (r : Fault) : OutcomesAlike (.fault r) (.fault r) :=
  ⟨fun _ ht => (nomatch ht), fun _ hr => hr⟩

section
variable {s s' : State}

/-- A frame row reads the profile and nothing of the frame buffer, so one profile is all it asks for. -/
theorem frameRow_alike (i : Instr) (hb : ∀ v, i ≠ .byteIn v) (hc : ∀ fw ymax o, i ≠ .cfgLoad fw ymax o)
    (h : s.Alike s') (hp : s.profile = s'.profile) : OutcomesAlike (exec i s) (exec i s') := by
  cases i with
  | byteIn v => exact absurd rfl (hb v)
  | cfgLoad fw ymax o => exact absurd rfl (hc fw ymax o)
  | v3Debounce => exact .next (h.beginFrame .debounce)
  | v3HeadF0 f => exact .next ((h.enterHead 0 f).decodeF0 f.buttons)
  | v3HeadF1 f => exact .next ((h.enterHead 1 f).decodeF1 hp f.x f.yraw f.buttons)
  | v3HeadF2 f => exact .next ((h.enterHead 2 f).decodeF2 hp .s0 f.x f.yraw)
  | v3HeadF3 f => exact .next (h.enterHead 3 f)
  | v3TailF0 f => exact .next ((h.enterTail 0 f).decodeF0 f.buttons)
  | v3TailF1 f => exact .next ((h.enterTail 1 f).decodeF1 hp f.x f.yraw f.buttons)
  | v3TailF2 f => exact .next ((h.enterTail 2 f).decodeF2 hp .s1 f.x f.yraw)
  | v3TailF3 f => exact .next (h.enterTail 3 f)
  | v3Unknown w => exact .next (h.beginFrame .unknown)
  | v1Frame w =>
    refine .next (?_ : (beginFrame _ s).Alike (beginFrame _ s'))
    rw [← hp]
    exact h.beginFrame _
  | v2Frame w => exact .next (h.beginFrame .unsupported)
  | v4Frame w => exact .next (h.beginFrame .unsupported)

/-- BYTE_IN: without a profile it reads none; with a consistent one a completed frame has been received whole, so the
row it decodes to is the same in both states (10_state.md R12, R19). -/
theorem byteIn_alike (v : Byte) (hcons : s.profile.consistent) (h : s.Alike s') :
    OutcomesAlike (exec (.byteIn v) s) (exec (.byteIn v) s') := by
  change OutcomesAlike (execByteIn v s) (execByteIn v s')
  cases hv : s.profile.valid with
  | false =>
    rw [execByteIn_discarded v s hv, execByteIn_discarded v s' (h.profileValid ▸ hv)]
    exact .next h.clearStrobe
  | true =>
    have hp : s.profile = s'.profile := h.profile hv
    have hv' : s'.profile.valid = true := h.profileValid ▸ hv
    have hstored : (storeByte v (clearStrobe s)).Alike (storeByte v (clearStrobe s')) := h.clearStrobe.storeByte hp v
    cases hc : completesFrame s with
    | false =>
      rw [execByteIn_partial v s hv hc, execByteIn_partial v s' hv' (h.completesFrame hp ▸ hc)]
      exact .next hstored
    | true =>
      have hrow : decodeFrame s.profile.gen (bufferWith v s) = decodeFrame s.profile.gen (bufferWith v s') := by
        refine decodeFrame_congr _ _ _ fun j hj => h.bufferWith v j ?_
        obtain ⟨-, hlen, -⟩ := hcons hv
        have hlast := (completesFrame_iff s).1 hc
        rw [← hlen] at hj
        omega
      rw [execByteIn_complete v s hv hc, execByteIn_complete v s' hv' (h.completesFrame hp ▸ hc), ← hp, ← hrow]
      obtain ⟨hb, hl⟩ := decodeFrame_is_row s.profile.gen (bufferWith v s)
      exact frameRow_alike _ hb hl hstored hp

/-- CFG_LOAD reads its operands only; where it finds no generation it leaves the block without a profile. -/
theorem cfgLoad_alike (fw : Firmware) (ymax : BitVec 12) (o : ParityOverride) (h : s.Alike s') :
    OutcomesAlike (exec (.cfgLoad fw ymax o) s) (exec (.cfgLoad fw ymax o) s') := by
  refine .next (State.Alike.decodeReset ?_)
  cases genOf fw with
  | none => exact { h with profileValid := rfl, profile := fun hv => Bool.noConfusion hv }
  | some g => exact { h with profileValid := rfl, profile := fun _ => rfl }

/-- A port transaction is accepted or refused alike, by the record of power transitions alone. -/
theorem step_port_alike (tr : Transaction) (rest : List Transaction) (i : Instr) (h : s.Alike s')
    (hs : s.inputs = tr :: rest) (hd : decodeTransaction tr = some i)
    (hexec : portFault s.power.stage tr = none → OutcomesAlike (exec i (s.accept rest)) (exec i (s'.accept rest))) :
    OutcomesAlike (step s) (step s') := by
  have hs' : s'.inputs = tr :: rest := h.inputs ▸ hs
  cases hf : portFault s.power.stage tr with
  | none =>
    rw [step_port s tr rest i hs hd hf, step_port s' tr rest i hs' hd (h.power ▸ hf)]
    exact hexec hf
  | some r =>
    rw [step_port_fault s tr rest i r hs hd hf, step_port_fault s' tr rest i r hs' hd (h.power ▸ hf)]
    exact .fault r

theorem stage_ne_lost_of_accepted {p : PowerStage} {tr : Transaction} (h : portFault p tr = none) : p ≠ .lost := by
  rintro rfl
  cases h

theorem step_alike (hcons : s.power.stage ≠ .lost → s.profile.consistent) (h : s.Alike s') :
    OutcomesAlike (step s) (step s') := by
  rcases hs : s.inputs with _ | ⟨tr, rest⟩
  · rw [step_idle s hs, step_idle s' (h.inputs ▸ hs)]
    exact .next h
  · cases tr with
    | port8 v =>
      exact step_port_alike _ rest _ h hs rfl fun hf =>
        byteIn_alike v (hcons (stage_ne_lost_of_accepted hf)) (h.accept rest)
    | portCfg c => exact step_port_alike _ rest _ h hs rfl fun _ => cfgLoad_alike _ _ _ (h.accept rest)
    | reset =>
      rw [step_reset s rest hs, step_reset s' rest (h.inputs ▸ hs)]
      exact .next (h.setInputs rest).fullReset
    | powerTransition =>
      rw [step_powerTransition s rest hs, step_powerTransition s' rest (h.inputs ▸ hs),
        losePower_eq (s := s.setInputs rest) (s' := s'.setInputs rest) rfl h.power]
      exact .next (.refl _)

end

/-! ## The statements -/

/-- Settles O48: two alike states offer the same transaction, and every operation it runs keeps them alike. -/
theorem unspecifiedRegistersHaveNoInfluence : Obligations.UnspecifiedRegistersHaveNoInfluence := by
  unfold Obligations.UnspecifiedRegistersHaveNoInfluence
  intro s s' hcons h
  exact step_alike hcons h

/-- Settles O13, by induction on the number of steps: a step keeps the absence of power transitions. -/
theorem everyInputSequenceAccepted : Obligations.EveryInputSequenceAccepted := by
  unfold Obligations.EveryInputSequenceAccepted
  intro n
  induction n with
  | zero => exact fun s _ _ => ⟨s, rfl⟩
  | succ n ih =>
    intro s hp hq
    obtain ⟨t, hstep, hpt, hqt⟩ := step_next_of_powerStays s hp hq
    obtain ⟨u, hu⟩ := ih t hpt hqt
    exact ⟨u, (run_succ n s t hstep).trans hu⟩

end Sys2Proof.Machine
end

section
/-!
SUPPORT. The proofs of family 10_state.md: who writes the profile and what a load writes to it, the parity table, and the
invariant that every step keeps.
-/

namespace Sys2Proof.Machine

open Sys2Proof.Spec

/-! ## What a BYTE_IN can have done, and the profile it leaves alone -/

/-- The three outcomes of a BYTE_IN (40_frame_assembly.md R70, R71, R73, R75). -/
theorem byteIn_cases {v : Byte} {s t : State} (h : exec (.byteIn v) s = .next t) :
    (s.profile.valid = false ∧ t = clearStrobe s) ∨
    (s.profile.valid = true ∧ completesFrame s = false ∧ t = storeByte v (clearStrobe s)) ∨
    (s.profile.valid = true ∧ completesFrame s = true ∧
      exec (decodeFrame s.profile.gen (bufferWith v s)) (storeByte v (clearStrobe s)) = .next t) := by
  change execByteIn v s = _ at h
  cases hv : s.profile.valid with
  | false =>
    rw [execByteIn_discarded v s hv] at h
    cases h
    exact .inl ⟨rfl, rfl⟩
  | true =>
    cases hc : completesFrame s with
    | false =>
      rw [execByteIn_partial v s hv hc] at h
      cases h
      exact .inr (.inl ⟨rfl, rfl, rfl⟩)
    | true => exact .inr (.inr ⟨rfl, rfl, (execByteIn_complete v s hv hc).symm.trans h⟩)

theorem byteIn_keeps_profile {v : Byte} {s t : State} (h : exec (.byteIn v) s = .next t) : t.profile = s.profile := by
  rcases byteIn_cases h with ⟨-, rfl⟩ | ⟨-, -, rfl⟩ | ⟨-, -, hrow⟩
  · rfl
  · rfl
  · obtain ⟨hb, hl⟩ := decodeFrame_is_row s.profile.gen (bufferWith v s)
    obtain ⟨-, -, hprofile, -⟩ := frameRow_frame _ _ t hb hl hrow
    exact hprofile

theorem exec_keeps_profile {i : Instr} {s t : State} (h : exec i s = .next t)
    (hload : ∀ fw ymax o, i ≠ .cfgLoad fw ymax o) : t.profile = s.profile := by
  cases i with
  | byteIn v => exact byteIn_keeps_profile h
  | cfgLoad fw ymax o => exact absurd rfl (hload fw ymax o)
  | _ =>
    obtain ⟨-, -, hprofile, -⟩ := frameRow_frame _ s t (by simp) hload h
    exact hprofile

/-! ## CFG_LOAD and what it derives from the firmware version -/

/-- CFG_LOAD of a firmware version without a generation (10_state.md R16; log 15). -/
theorem cfgLoad_of_none {fw : Firmware} (ymax : BitVec 12) (o : ParityOverride) (s : State) (h : genOf fw = none) :
    exec (.cfgLoad fw ymax o) s = .next (decodeReset (s.setProfile { s.profile with valid := false })) := by
  change execCfgLoad fw ymax o s = _
  simp only [execCfgLoad, h]

/-- CFG_LOAD of a firmware version with a generation (10_state.md R16). -/
theorem cfgLoad_of_some {fw : Firmware} {g : Generation} (ymax : BitVec 12) (o : ParityOverride) (s : State)
    (h : genOf fw = some g) :
    exec (.cfgLoad fw ymax o) s = .next (decodeReset (s.setProfile (loadedProfile g fw ymax o))) := by
  change execCfgLoad fw ymax o s = _
  simp only [execCfgLoad, h]

/-- DecodeReset does what R170 says, whatever the profile is. -/
theorem decodeReset_setProfile_done (s : State) (p : Profile) :
    DecodeResetDone s (decodeReset (s.setProfile p)) :=
  ⟨rfl, rfl, rfl, rfl, rfl, rfl, rfl, rfl⟩

/-- The indicator of R11, `(fw >> 16) & 0x0F`, as the four bits the model extracts. -/
theorem indicator_toNat (fw : Firmware) : (fw.extractLsb' 16 4).toNat = (fw.toNat >>> 16) &&& 0x0F := by
  rw [BitVec.extractLsb'_toNat]
  exact (Nat.and_two_pow_sub_one_eq_mod _ 4).symm

theorem genOf_eq (fw : Firmware) :
    genOf fw =
      (if fw.toNat < 0x020030 ∨ fw.toNat = 0x020600 then some .g1
       else if (fw.toNat >>> 16) &&& 0x0F = 2 ∨ (fw.toNat >>> 16) &&& 0x0F = 4 then some .g2
       else if (fw.toNat >>> 16) &&& 0x0F = 5 then some .g3
       else if (fw.toNat >>> 16) &&& 0x0F = 6 then some .g4
       else none) := by
  rw [← indicator_toNat]
  simp only [genOf, ← BitVec.toNat_inj]
  rfl

theorem frameLengthOf_toNat (g : Generation) : (frameLengthOf g).toNat = if g = .g1 then 4 else 6 := by
  cases g <;> rfl

theorem parityEnOf_eq_false_iff (o : ParityOverride) : parityEnOf o = false ↔ o = .forceZero := by
  cases o <;> decide

theorem jumpyOf_iff (fw : Firmware) : jumpyOf fw = true ↔ fw.toNat = 0x020022 ∨ fw.toNat = 0x020600 := by
  simp only [jumpyOf, Bool.or_eq_true, beq_iff_eq, ← BitVec.toNat_inj]
  rfl

theorem pressureOf_iff (g : Generation) (fw : Firmware) :
    pressureOf g fw = true ↔ g ≠ .g1 ∧ 0x020800 ≤ fw.toNat := by
  simp only [pressureOf, Bool.and_eq_true, bne_iff_ne, decide_eq_true_eq]
  rfl

/-! ## The parity table (10_state.md R18) -/

/-- The number of one bits of a byte. -/
def onesOf (i : Byte) : Nat := (List.range 8).countP fun k => i.getLsbD k

theorem onesOf_le (i : Byte) : onesOf i ≤ 8 := List.countP_le_length

/-- `i & (i-1)` has one one bit less than `i`. -/
theorem onesOf_clear_lowest : ∀ i : Byte, i ≠ 0 → onesOf i = onesOf (i &&& (i - 1)) + 1 := by decide

/-- Unrolled at least as often as the byte has one bits, the recurrence gives its parity. -/
theorem parityFrom_iff (n : Nat) (i : Byte) (h : onesOf i ≤ n) : parityFrom n i = true ↔ onesOf i % 2 = 0 := by
  induction n generalizing i with
  | zero => simp [parityFrom, Nat.le_zero.1 h]
  | succ n ih =>
    by_cases hi : i = 0
    · subst hi
      exact iff_of_true (if_pos rfl) (by decide)
    · have hclear := onesOf_clear_lowest i hi
      have hrest := ih (i &&& (i - 1)) (by omega)
      rw [parityFrom, if_neg hi, Bool.not_eq_true', ← Bool.not_eq_true, hrest]
      omega

theorem parityTable_iff (i : Byte) : parityTable i = true ↔ onesOf i % 2 = 0 := parityFrom_iff 8 i (onesOf_le i)

theorem parityTable_recurrence (i : Byte) (hi : i ≠ 0) : parityTable i = !(parityTable (i &&& (i - 1))) := by
  rw [Bool.eq_iff_iff, Bool.not_eq_true', ← Bool.not_eq_true, parityTable_iff, parityTable_iff,
    onesOf_clear_lowest i hi]
  omega

/-! ## The invariant: resets -/

theorem FingerTrack.idle_flagsLegal (t : FingerTrack) : t.idle.flagsLegal := ⟨fun _ => rfl, rfl⟩

theorem FingerTrack.idle_pointsDecoded (ymax : BitVec 12) (t : FingerTrack) : t.idle.pointsDecoded ymax :=
  ⟨fun h => Bool.noConfusion h, fun h => Bool.noConfusion h⟩

/-- DecodeReset makes every register legal, whatever it held, when the profile it finds is a derived one. -/
theorem decodeReset_legal (s : State) (h : s.profile.consistent) : (decodeReset s).RegistersLegal where
  profile := h
  position := by
    have hlen : 0 < s.profile.pktsize.toNat := by cases s.profile.pktsize <;> decide
    simp only [State.framePositionInside, decodeReset_profile, decodeReset_asm]
    split
    · exact hlen
    · trivial
  flags0 := s.slot0.idle_flagsLegal
  flags1 := s.slot1.idle_flagsLegal
  points0 := s.slot0.idle_pointsDecoded _
  points1 := s.slot1.idle_pointsDecoded _
  tapFlag := rfl
  count := ⟨by simp, fun _ => ⟨rfl, rfl, rfl⟩⟩
  lastPoint h := Bool.noConfusion h
  status h := Bool.noConfusion h
  verdict _ := by cases s.profile.gen <;> rfl
  event := (by decide : EventPort.inRange ⟨false, 0, 0, 0⟩)
  generation3 := ⟨fun _ => ⟨rfl, rfl, rfl, rfl, rfl, rfl, rfl, rfl⟩, fun _ => rfl⟩

/-- A profile that is not valid derives nothing. -/
theorem Profile.consistent_of_invalid {p : Profile} (h : p.valid = false) : p.consistent :=
  fun hv => absurd (hv.symm.trans h) (by decide)

theorem loadedProfile_consistent {g : Generation} {fw : Firmware} (ymax : BitVec 12) (o : ParityOverride)
    (h : genOf fw = some g) : (loadedProfile g fw ymax o).consistent :=
  fun _ => ⟨h, rfl, rfl, rfl⟩

/-- A reset makes every register legal, also those a power transition left free (70_reset_and_hazards.md R170). -/
theorem fullReset_legal (s : State) : (fullReset s).RegistersLegal :=
  decodeReset_legal _ (Profile.consistent_of_invalid rfl)

/-- A load makes every register legal, with a generation or without one (10_state.md R16). -/
theorem cfgLoad_legal {fw : Firmware} {ymax : BitVec 12} {o : ParityOverride} {s t : State}
    (h : exec (.cfgLoad fw ymax o) s = .next t) : t.RegistersLegal := by
  cases hg : genOf fw with
  | none =>
    rw [cfgLoad_of_none ymax o s hg] at h
    cases h
    exact decodeReset_legal _ (Profile.consistent_of_invalid rfl)
  | some g =>
    rw [cfgLoad_of_some ymax o s hg] at h
    cases h
    exact decodeReset_legal _ (loadedProfile_consistent ymax o hg)

/-! ## The invariant: decoded points and their differences -/

/-- A valid sample is a decoded point of the Y maximum in force (42_position_decoder.md R101, R102). -/
theorem decodeSample_decodedUnder {ymax x yraw : BitVec 12} (h : (decodeSample ymax x yraw).isValid = true) :
    (decodeSample ymax x yraw).decodedUnder ymax := by
  have hyraw := yraw.isLt
  obtain ⟨hx, hy⟩ : (decodeSample ymax x yraw).x ≠ 0 ∧ (decodeSample ymax x yraw).y ≠ 0 := by
    simpa [Point.isValid] using h
  refine ⟨hx, hy, ?_, ?_⟩ <;> rw [decodeSample_yInt] <;> omega

/-- The x of a decoded point is 1 to 4095 (42_position_decoder.md R101, R102). -/
theorem Point.decodedUnder.xInt_bounds {ymax : BitVec 12} {p : Point} (h : p.decodedUnder ymax) :
    1 ≤ p.xInt ∧ p.xInt ≤ 4095 := by
  obtain ⟨hx, -⟩ := h
  have hpos : p.x.toNat ≠ 0 := fun h0 => hx (BitVec.eq_of_toNat_eq h0)
  have hlt := p.x.isLt
  simp only [Point.xInt]
  omega

/-- The delta of two decoded points under one Y maximum is one the event port may hold (42_position_decoder.md R102). -/
theorem Point.decodedUnder.delta_inRange {ymax : BitVec 12} {p q : Point} (hp : p.decodedUnder ymax)
    (hq : q.decodedUnder ymax) (b : BitVec 2) :
    EventPort.inRange ⟨true, BitVec.ofInt 16 (p.xInt - q.xInt), BitVec.ofInt 16 (p.yInt - q.yInt), b⟩ := by
  obtain ⟨hpx, hpx'⟩ := hp.xInt_bounds
  obtain ⟨hqx, hqx'⟩ := hq.xInt_bounds
  obtain ⟨-, -, hpy, hpy'⟩ := hp
  obtain ⟨-, -, hqy, hqy'⟩ := hq
  simp only [EventPort.inRange]
  rw [BitVec.toInt_ofInt_eq_self (by decide) (by omega) (by omega),
    BitVec.toInt_ofInt_eq_self (by decide) (by omega) (by omega)]
  omega

/-! ## The invariant: operations that every generation has -/

section
variable {s : State}

theorem State.RegistersLegal.accept (h : s.RegistersLegal) (rest : List Transaction) :
    (s.accept rest).RegistersLegal := { h with }

theorem State.RegistersLegal.clearStrobe (h : s.RegistersLegal) : (clearStrobe s).RegistersLegal :=
  { h with
    generation3 := by
      obtain ⟨hnothing, hverdict⟩ := h.generation3
      refine ⟨fun hg => ?_, hverdict⟩
      obtain ⟨h0, h1, hlast, hcount, htap, hmal, hevent, hdiag⟩ := hnothing hg
      exact ⟨h0, h1, hlast, hcount, htap, hmal, by rw [clearStrobe_event, hevent], hdiag⟩ }

/-- A stored byte leaves CNT inside the frame (10_state.md R19). -/
theorem State.RegistersLegal.storeByte (h : s.RegistersLegal) (hv : s.profile.valid = true) (v : Byte) :
    (storeByte v s).RegistersLegal :=
  { h with
    position := by
      have hin : s.asm.cnt.val < s.profile.pktsize.toNat := by simpa [State.framePositionInside, hv] using h.position
      simp only [State.framePositionInside, storeByte_profile, storeByte_asm, hv, if_true]
      split
      · exact Nat.zero_lt_of_lt hin
      · rename_i hc
        rw [completesFrame_iff] at hc
        have hnext : s.asm.cnt.val + 1 < s.profile.pktsize.toNat := by omega
        rw [cnt_succ_val _ _ hnext]
        exact hnext }

/-- A frame's verdict is one of the generation in force (41_classifier.md R92). -/
theorem State.RegistersLegal.beginFrame (h : s.RegistersLegal) (hv : s.profile.valid = true) {v : Verdict}
    (hverdict : verdictOfGeneration s.profile.gen v = true) : (beginFrame v s).RegistersLegal :=
  { h with
    status := fun hm => Bool.noConfusion hm
    verdict := fun _ => hverdict
    generation3 := by
      obtain ⟨hnothing, -⟩ := h.generation3
      refine ⟨fun hg => ?_, fun hv' => absurd (hv.symm.trans hv') (by decide)⟩
      obtain ⟨h0, h1, hlast, hcount, htap, -, hevent, hdiag⟩ := hnothing hg
      exact ⟨h0, h1, hlast, hcount, htap, rfl, hevent, hdiag⟩ }

end

/-! ## The invariant: operations of generation 3 -/

/-- A generation-3 profile is in force. -/
def State.DecodesV3 (s : State) : Prop := s.profile.valid = true ∧ s.profile.gen = .g3

/-- Under a generation-3 profile the invariant's clause about all other profiles asks for nothing. -/
theorem State.DecodesV3.decodesOnlyGeneration3 {s : State} (hg : s.DecodesV3) : s.decodesOnlyGeneration3 :=
  ⟨fun h => absurd hg h, fun h => absurd (hg.1.symm.trans h) (by decide)⟩

theorem State.DecodesV3.of_profile_eq {s t : State} (hg : s.DecodesV3) (h : t.profile = s.profile) : t.DecodesV3 := by
  rw [State.DecodesV3, h]
  exact hg

section
variable {s : State}

theorem State.RegistersLegal.writeDiagnostics (h : s.RegistersLegal) (hg : s.DecodesV3) (w : FrameWord) :
    (writeDiagnostics w s).RegistersLegal :=
  { h with generation3 := State.DecodesV3.decodesOnlyGeneration3 hg }

theorem State.RegistersLegal.enterHead (h : s.RegistersLegal) (hg : s.DecodesV3) (n : BitVec 2) (f : HeadFields) :
    (enterHead n f s).RegistersLegal :=
  (h.beginFrame hg.1 (v := .head) (by rw [hg.2]; rfl)).writeDiagnostics hg _

theorem State.RegistersLegal.enterTail (h : s.RegistersLegal) (hg : s.DecodesV3) (n : BitVec 2) (f : TailFields) :
    (enterTail n f s).RegistersLegal :=
  (h.beginFrame hg.1 (v := .tail) (by rw [hg.2]; rfl)).writeDiagnostics hg _

theorem State.RegistersLegal.markMalformed (h : s.RegistersLegal) (hg : s.DecodesV3)
    (hv : s.status.verdict = .head ∨ s.status.verdict = .tail) : (markMalformed s).RegistersLegal :=
  { h with
    status := fun _ => hv
    generation3 := State.DecodesV3.decodesOnlyGeneration3 hg }

theorem State.RegistersLegal.setLastCount (h : s.RegistersLegal) (hg : s.DecodesV3) {n : BitVec 2} (h3 : n ≠ 3)
    (h0 : n ≠ 0) : (setLastCount n s).RegistersLegal :=
  { h with
    count := ⟨h3, fun hn => absurd hn h0⟩
    generation3 := State.DecodesV3.decodesOnlyGeneration3 hg }

theorem State.RegistersLegal.emitMotion (h : s.RegistersLegal) (hg : s.DecodesV3) {p : Point}
    (hp : p.decodedUnder s.profile.ymax) (b : BitVec 2) : (emitMotion p b s).RegistersLegal := by
  cases hl : s.gesture.lastValid with
  | false => simpa [Machine.emitMotion, Gesture.last?, hl] using h
  | true =>
    obtain ⟨-, hlast⟩ := h.lastPoint hl
    simp only [Machine.emitMotion, Gesture.last?, hl, if_true]
    exact { h with
      event := hp.delta_inRange hlast b
      generation3 := State.DecodesV3.decodesOnlyGeneration3 hg }

/-- The last point is a point of slot 0's contact (42_position_decoder.md R106). -/
theorem State.RegistersLegal.setLast (h : s.RegistersLegal) (hg : s.DecodesV3) (hcount : s.gesture.lastCount ≠ 0)
    (hslot : s.slot0.posValid = true) {p : Point} (hp : p.decodedUnder s.profile.ymax) :
    (setLast p s).RegistersLegal :=
  { h with
    count := ⟨h.count.1, fun h0 => absurd h0 hcount⟩
    lastPoint := fun _ => ⟨hslot, hp⟩
    generation3 := State.DecodesV3.decodesOnlyGeneration3 hg }

/-- A slot in contact may get a new track that is legal in itself and stands in the way of a click as the old one did. -/
theorem State.RegistersLegal.setSlot (h : s.RegistersLegal) (hg : s.DecodesV3) (hcount : s.gesture.lastCount ≠ 0)
    (k : SlotId) {t : FingerTrack} (hflags : t.flagsLegal) (hpoints : t.pointsDecoded s.profile.ymax)
    (hpos : t.posValid = true) (htap : t.allowsTap = (s.slot k).allowsTap) : (s.setSlot k t).RegistersLegal := by
  have count : (s.setSlot k t).countLegal := ⟨by simpa using h.count.1, fun h0 => absurd (by simpa using h0) hcount⟩
  have generation3 : (s.setSlot k t).decodesOnlyGeneration3 :=
    State.DecodesV3.decodesOnlyGeneration3 (hg.of_profile_eq (by simp))
  cases k with
  | s0 =>
    exact { h with
      flags0 := hflags
      points0 := hpoints
      tapFlag := h.tapFlag.trans (congrArg (· && s.slot1.allowsTap) htap.symm)
      lastPoint := fun hl => ⟨hpos, (h.lastPoint hl).2⟩
      count, generation3 }
  | s1 =>
    exact { h with
      flags1 := hflags
      points1 := hpoints
      tapFlag := h.tapFlag.trans (congrArg (s.slot0.allowsTap && ·) htap.symm)
      count, generation3 }

theorem State.RegistersLegal.slot_flagsLegal (h : s.RegistersLegal) (k : SlotId) : (s.slot k).flagsLegal := by
  cases k
  · exact h.flags0
  · exact h.flags1

theorem State.RegistersLegal.slot_pointsDecoded (h : s.RegistersLegal) (k : SlotId) :
    (s.slot k).pointsDecoded s.profile.ymax := by
  cases k
  · exact h.points0
  · exact h.points1

/-- The disqualification of a slot takes TAP_TO_CLICK with it (43_tap_gesture.md R132). -/
theorem State.RegistersLegal.disqualify (h : s.RegistersLegal) (hg : s.DecodesV3) (hcount : s.gesture.lastCount ≠ 0)
    (k : SlotId) (hstart : (s.slot k).startValid = true) : (disqualify k s).RegistersLegal := by
  have count : (Machine.disqualify k s).countLegal :=
    ⟨by simpa using h.count.1, fun h0 => absurd (by simpa using h0) hcount⟩
  have generation3 : (Machine.disqualify k s).decodesOnlyGeneration3 :=
    State.DecodesV3.decodesOnlyGeneration3 (hg.of_profile_eq (by simp))
  obtain ⟨-, hpos⟩ := h.slot_flagsLegal k
  have hblocks : FingerTrack.allowsTap { s.slot k with tapInRange := false } = false := by
    simp [FingerTrack.allowsTap, hstart]
  cases k with
  | s0 =>
    exact { h with
      flags0 := ⟨fun _ => rfl, hpos⟩
      tapFlag := ((congrArg (· && s.slot1.allowsTap) hblocks).trans (Bool.false_and _)).symm
      count, generation3 }
  | s1 =>
    exact { h with
      flags1 := ⟨fun _ => rfl, hpos⟩
      tapFlag := ((congrArg (s.slot0.allowsTap && ·) hblocks).trans (Bool.and_false _)).symm
      count, generation3 }

/-- A decoded point moves a slot and runs its tap tracking: latch, or comparator (43_tap_gesture.md R131, R132). -/
theorem State.RegistersLegal.tapTrack_setPos (h : s.RegistersLegal) (hg : s.DecodesV3)
    (hcount : s.gesture.lastCount ≠ 0) (k : SlotId) {p : Point} (hp : p.decodedUnder s.profile.ymax) :
    (tapTrack k p (setPos k p s)).RegistersLegal := by
  cases hstart : (s.slot k).startValid with
  | false =>
    rw [tapTrack_first k p _ (by simpa using hstart)]
    have hlatch : latchStart k p (setPos k p s) = s.setSlot k ⟨true, p.x, p.y, true, p.x, p.y, true⟩ := by
      cases k <;> rfl
    rw [hlatch]
    exact h.setSlot hg hcount k ⟨fun hf => Bool.noConfusion hf, rfl⟩ ⟨fun _ => hp, fun _ => hp⟩ rfl
      (by simp [FingerTrack.allowsTap, hstart])
  | true =>
    obtain ⟨hrange, -⟩ := h.slot_flagsLegal k
    obtain ⟨-, hstartPoint⟩ := h.slot_pointsDecoded k
    have hmoved : (setPos k p s).RegistersLegal :=
      h.setSlot hg hcount k ⟨hrange, hstart.symm⟩ ⟨fun _ => hp, hstartPoint⟩ rfl rfl
    have hstart' : ((setPos k p s).slot k).startValid = true := by simpa using hstart
    rw [tapTrack_later k p _ hstart']
    split
    · exact hmoved.disqualify (hg.of_profile_eq (by simp)) (by simpa using hcount) k hstart'
    · exact hmoved

end

/-! ## The invariant: the decoded frames

DecodeF1 and DecodeF2 write LAST_COUNT last and DecodeF1 the last point before the slot, so the invariant fails between
their operations. The operations commute, and in the order of the two equations below each of them keeps it. -/

theorem setLastCount_setLast (n : BitVec 2) (p : Point) (s : State) :
    setLastCount n (setLast p s) = setLast p (setLastCount n s) := rfl

theorem setLastCount_setPos (n : BitVec 2) (k : SlotId) (p : Point) (s : State) :
    setLastCount n (setPos k p s) = setPos k p (setLastCount n s) := by
  cases k <;> rfl

theorem setLastCount_emitMotion (n : BitVec 2) (p : Point) (b : BitVec 2) (s : State) :
    setLastCount n (emitMotion p b s) = emitMotion p b (setLastCount n s) := by
  have hlast : (setLastCount n s).gesture.last? = s.gesture.last? := rfl
  unfold emitMotion
  rw [hlast]
  split <;> rfl

theorem setLastCount_tapTrack (n : BitVec 2) (k : SlotId) (p : Point) (s : State) :
    setLastCount n (tapTrack k p s) = tapTrack k p (setLastCount n s) := by
  unfold tapTrack tapCompare
  rw [setLastCount_slot]
  split <;> [skip; split] <;> cases k <;> rfl

theorem setPos_setLast (k : SlotId) (p q : Point) (s : State) :
    setPos k p (setLast q s) = setLast q (setPos k p s) := by
  cases k <;> rfl

theorem tapTrack_setLast (k : SlotId) (p q : Point) (s : State) :
    tapTrack k p (setLast q s) = setLast q (tapTrack k p s) := by
  unfold tapTrack tapCompare
  rw [setLast_slot]
  split <;> [skip; split] <;> cases k <;> rfl

/-- A valid one-finger sample, LAST_COUNT first and the last point last. -/
theorem decodeF1_valid_reordered (x yraw : BitVec 12) (b : BitVec 2) (s : State)
    (h : (decodeSample s.profile.ymax x yraw).isValid = true) :
    decodeF1 x yraw b s =
      setLast (decodeSample s.profile.ymax x yraw) (tapTrack .s0 (decodeSample s.profile.ymax x yraw)
        (setPos .s0 (decodeSample s.profile.ymax x yraw)
          (emitMotion (decodeSample s.profile.ymax x yraw) b (setLastCount 1 s)))) := by
  rw [decodeF1_valid x yraw b s h, setPos_setLast, tapTrack_setLast, setLastCount_setLast, setLastCount_tapTrack,
    setLastCount_setPos, setLastCount_emitMotion]

/-- A valid two-finger sample, LAST_COUNT first. -/
theorem decodeF2_valid_reordered (k : SlotId) (x yraw : BitVec 12) (s : State)
    (h : (decodeSample s.profile.ymax x yraw).isValid = true) :
    decodeF2 k x yraw s =
      tapTrack k (decodeSample s.profile.ymax x yraw)
        (setPos k (decodeSample s.profile.ymax x yraw) (setLastCount 2 s)) := by
  rw [decodeF2_valid k x yraw s h, setLastCount_tapTrack, setLastCount_setPos]

/-- Tap tracking writes no position. -/
theorem tapTrack_posValid (k j : SlotId) (p : Point) (s : State) :
    ((tapTrack k p s).slot j).posValid = (s.slot j).posValid := by
  unfold tapTrack tapCompare
  split <;> [skip; split] <;> cases k <;> cases j <;> rfl

section
variable {s : State}

theorem State.RegistersLegal.decodeF0 (h : s.RegistersLegal) (hg : s.DecodesV3) (b : BitVec 2) :
    (decodeF0 b s).RegistersLegal := by
  rw [decodeF0_eq]
  exact { h with
    flags0 := s.slot0.idle_flagsLegal
    flags1 := s.slot1.idle_flagsLegal
    points0 := s.slot0.idle_pointsDecoded _
    points1 := s.slot1.idle_pointsDecoded _
    tapFlag := rfl
    count := ⟨by simp, fun _ => ⟨rfl, rfl, rfl⟩⟩
    lastPoint := fun hl => Bool.noConfusion hl
    event := (by decide : (0 : BitVec 16).toInt.natAbs ≤ 4094 ∧ (0 : BitVec 16).toInt.natAbs ≤ 4095)
    generation3 := State.DecodesV3.decodesOnlyGeneration3 hg }

theorem State.RegistersLegal.decodeF1 (h : s.RegistersLegal) (hg : s.DecodesV3)
    (hverdict : s.status.verdict = .head ∨ s.status.verdict = .tail) (x yraw : BitVec 12) (b : BitVec 2) :
    (decodeF1 x yraw b s).RegistersLegal := by
  cases hvalid : (decodeSample s.profile.ymax x yraw).isValid with
  | false =>
    rw [decodeF1_invalid x yraw b s hvalid]
    exact (h.markMalformed hg hverdict).setLastCount hg (n := 1) (by decide) (by decide)
  | true =>
    rw [decodeF1_valid_reordered x yraw b s hvalid]
    have hp := decodeSample_decodedUnder hvalid
    generalize decodeSample s.profile.ymax x yraw = p at hp
    have hmotion : (Machine.emitMotion p b (Machine.setLastCount 1 s)).RegistersLegal :=
      (h.setLastCount hg (n := 1) (by decide) (by decide)).emitMotion hg hp b
    have htracked := hmotion.tapTrack_setPos (hg.of_profile_eq (by simp)) (by simp) .s0 (p := p) (by simpa using hp)
    have hcount : (tapTrack .s0 p (Machine.setPos .s0 p
        (Machine.emitMotion p b (Machine.setLastCount 1 s)))).gesture.lastCount ≠ 0 := by
      rw [tapTrack_gesture]
      simp
    exact htracked.setLast (hg.of_profile_eq (by simp)) hcount (tapTrack_posValid .s0 .s0 p _) (by simpa using hp)

theorem State.RegistersLegal.decodeF2 (h : s.RegistersLegal) (hg : s.DecodesV3)
    (hverdict : s.status.verdict = .head ∨ s.status.verdict = .tail) (k : SlotId) (x yraw : BitVec 12) :
    (decodeF2 k x yraw s).RegistersLegal := by
  cases hvalid : (decodeSample s.profile.ymax x yraw).isValid with
  | false =>
    rw [decodeF2_invalid k x yraw s hvalid]
    exact (h.markMalformed hg hverdict).setLastCount hg (n := 2) (by decide) (by decide)
  | true =>
    rw [decodeF2_valid_reordered k x yraw s hvalid]
    exact (h.setLastCount hg (n := 2) (by decide) (by decide)).tapTrack_setPos hg (by simp) k
      (decodeSample_decodedUnder hvalid)

end

/-! ## The invariant: rows, transactions, steps -/

/-- A frame decodes to a row of the generation it is decoded under. -/
theorem formatOf_decodeFrame (g : Generation) (fb : Vector Byte 6) : formatOf (decodeFrame g fb) = .frame g := by
  cases g with
  | g3 =>
    simp only [decodeFrame, decodeV3]
    split <;> [skip; split_ifs; split_ifs; skip] <;> rfl
  | g1 => rfl
  | g2 => rfl
  | g4 => rfl

/-- CheckV1 gives a verdict of generation 1 (41_classifier.md R86, R90). -/
theorem checkV1_verdict (p : Profile) (w : ShortFrameWord) : verdictOfGeneration .g1 (checkV1 p w) = true := by
  unfold checkV1
  split <;> [split; skip] <;> rfl

section
variable {s t : State}

/-- A row of the generation in force keeps the registers legal. -/
theorem frameRow_legal {i : Instr} (h : s.RegistersLegal) (hv : s.profile.valid = true)
    (hf : formatOf i = .frame s.profile.gen) (hexec : exec i s = .next t) : t.RegistersLegal := by
  have hgen (g : Generation) (hi : formatOf i = .frame g) : s.profile.gen = g :=
    Format.frame.inj (hf.symm.trans hi)
  have hg (hi : formatOf i = .frame .g3) : s.DecodesV3 := ⟨hv, hgen .g3 hi⟩
  cases i with
  | byteIn v => cases hf
  | cfgLoad fw ymax o => cases hf
  | v3Debounce => cases hexec; exact h.beginFrame hv (by rw [hgen .g3 rfl]; rfl)
  | v3HeadF0 f => cases hexec; exact (h.enterHead (hg rfl) 0 f).decodeF0 (hg rfl) _
  | v3HeadF1 f => cases hexec; exact (h.enterHead (hg rfl) 1 f).decodeF1 (hg rfl) (.inl rfl) _ _ _
  | v3HeadF2 f => cases hexec; exact (h.enterHead (hg rfl) 2 f).decodeF2 (hg rfl) (.inl rfl) _ _ _
  | v3HeadF3 f => cases hexec; exact h.enterHead (hg rfl) 3 f
  | v3TailF0 f => cases hexec; exact (h.enterTail (hg rfl) 0 f).decodeF0 (hg rfl) _
  | v3TailF1 f => cases hexec; exact (h.enterTail (hg rfl) 1 f).decodeF1 (hg rfl) (.inr rfl) _ _ _
  | v3TailF2 f => cases hexec; exact (h.enterTail (hg rfl) 2 f).decodeF2 (hg rfl) (.inr rfl) _ _ _
  | v3TailF3 f => cases hexec; exact h.enterTail (hg rfl) 3 f
  | v3Unknown w => cases hexec; exact h.beginFrame hv (by rw [hgen .g3 rfl]; rfl)
  | v1Frame w => cases hexec; exact h.beginFrame hv (by rw [hgen .g1 rfl]; exact checkV1_verdict _ w)
  | v2Frame w => cases hexec; exact h.beginFrame hv (by rw [hgen .g2 rfl]; rfl)
  | v4Frame w => cases hexec; exact h.beginFrame hv (by rw [hgen .g4 rfl]; rfl)

theorem byteIn_legal {v : Byte} (h : s.RegistersLegal) (hexec : exec (.byteIn v) s = .next t) : t.RegistersLegal := by
  rcases byteIn_cases hexec with ⟨-, rfl⟩ | ⟨hv, -, rfl⟩ | ⟨hv, -, hrow⟩
  · exact h.clearStrobe
  · exact h.clearStrobe.storeByte hv v
  · exact frameRow_legal (h.clearStrobe.storeByte hv v) hv (formatOf_decodeFrame _ _) hrow

/-- An accepted port transaction leaves an intact block with legal registers: a byte needs them before, a load does not. -/
theorem port_keeps_inv {tr : Transaction} {i : Instr} {rest : List Transaction} (h : s.Inv)
    (hd : decodeTransaction tr = some i) (hf : portFault s.power.stage tr = none)
    (hexec : exec i (s.accept rest) = .next t) : t.Inv := by
  have hstage : t.power.stage = .intact := by
    obtain ⟨-, hpower⟩ := exec_keeps_inputs_power i _ t hexec
    rw [hpower]
    rfl
  have hlegal : t.RegistersLegal := by
    cases tr with
    | port8 v =>
      cases hd
      exact byteIn_legal ((h.registers (stage_ne_lost_of_accepted hf)).accept rest) hexec
    | portCfg c =>
      cases hd
      exact cfgLoad_legal hexec
    | reset => cases hd
    | powerTransition => cases hd
  exact ⟨fun _ => hlegal, fun hw => absurd (hstage.symm.trans hw) (by decide)⟩

theorem fullReset_inv (s : State) : (fullReset s).Inv := ⟨fun _ => fullReset_legal s, fun _ => rfl⟩

/-- Nothing is claimed of the registers after a power transition (log 19). -/
theorem losePower_inv (s : State) : (losePower s).Inv :=
  ⟨fun hs => absurd rfl hs, fun hw => PowerStage.noConfusion hw⟩

theorem step_keeps_inv (h : s.Inv) (hstep : step s = .next t) : t.Inv := by
  rcases step_cases s t hstep with ⟨-, rfl⟩ | ⟨rest, -, rfl⟩ | ⟨rest, -, rfl⟩ | ⟨tr, rest, i, -, hd, hf, hexec⟩
  · exact h
  · exact fullReset_inv _
  · exact losePower_inv _
  · exact port_keeps_inv h hd hf hexec

end

/-! ## The statements -/

/-- Settles O47: resets and loads make every register legal, and every operation of a byte keeps them so. -/
theorem stepKeepsInvariant : Obligations.StepKeepsInvariant := by
  unfold Obligations.StepKeepsInvariant
  intro s t h hstep
  exact step_keeps_inv h hstep

/-- Settles O4: the rows of a frame and the outcomes of BYTE_IN all leave the profile alone. -/
theorem profileWrittenOnlyByLoad : Obligations.ProfileWrittenOnlyByLoad := by
  unfold Obligations.ProfileWrittenOnlyByLoad
  intro i s t h
  obtain ⟨hinputs, hpower⟩ := exec_keeps_inputs_power i s t h
  exact ⟨hinputs, hpower, exec_keeps_profile h⟩

/-- Settles O2, by the load's two cases and the model's 4-bit indicator as a number. -/
theorem generationFromFirmware : Obligations.GenerationFromFirmware := by
  unfold Obligations.GenerationFromFirmware
  refine ⟨fun fw ymax o s => ?_, genOf_eq⟩
  cases hg : genOf fw with
  | none => exact ⟨_, cfgLoad_of_none ymax o s hg, fun g h => (nomatch h), rfl⟩
  | some g => exact ⟨_, cfgLoad_of_some ymax o s hg, fun g' h => Option.some.inj h, rfl⟩

/-- Settles O3, by the load's two cases and the meaning of each derived value. -/
theorem cfgLoadWritesProfile : Obligations.CfgLoadWritesProfile := by
  unfold Obligations.CfgLoadWritesProfile
  refine ⟨fun v s t h => byteIn_keeps_profile h, fun fw ymax o s => ?_⟩
  cases hg : genOf fw with
  | none =>
    exact ⟨_, cfgLoad_of_none ymax o s hg, decodeReset_setProfile_done s _, rfl, rfl, fun _ => rfl,
      fun g h => nomatch h⟩
  | some g =>
    refine ⟨_, cfgLoad_of_some ymax o s hg, decodeReset_setProfile_done s _, rfl, rfl, fun h => (nomatch h),
      fun g' h => ?_⟩
    cases h
    exact ⟨rfl, rfl, rfl, frameLengthOf_toNat g, rfl, parityEnOf_eq_false_iff o, jumpyOf_iff fw, pressureOf_iff g fw⟩

/-- Settles O33: each unrolling of the recurrence clears one one bit, so PT is the parity of their number. -/
theorem parityTableRecurrence : Obligations.ParityTableRecurrence := by
  unfold Obligations.ParityTableRecurrence
  exact ⟨rfl, parityTable_recurrence, parityTable_iff⟩

end Sys2Proof.Machine
end

section
/-!
SUPPORT. The proofs of family 20_memory.md: the bytes of a frame lie in the frame buffer in their order of arrival, and
frame boundaries follow the number of bytes alone.
-/

namespace Sys2Proof.Machine

/-! ## What one BYTE_IN does to the frame assembler -/

/-- BYTE_IN inside a frame (40_frame_assembly.md R71). -/
theorem exec_byteIn_partial (v : Byte) (s : State) (hv : s.profile.valid = true) (hc : completesFrame s = false) :
    exec (.byteIn v) s =
      .next { s with
        asm := ⟨bufferWith v s, s.asm.cnt + 1⟩
        event := ⟨false, s.event.dx, s.event.dy, s.event.buttons⟩ } :=
  (execByteIn_partial v s hv hc).trans (congrArg _ (storeByte_partial v s hc))

/-- BYTE_IN on a frame's last byte (40_frame_assembly.md R70, R73). -/
theorem exec_byteIn_complete (v : Byte) (s : State) (hv : s.profile.valid = true) (hc : completesFrame s = true) :
    exec (.byteIn v) s =
      exec (decodeFrame s.profile.gen (bufferWith v s))
        { s with asm := ⟨bufferWith v s, 0⟩, event := ⟨false, s.event.dx, s.event.dy, s.event.buttons⟩ } :=
  (execByteIn_complete v s hv hc).trans (congrArg _ (storeByte_complete v s hc))

/-- With a profile the byte is stored, and the row of a completed frame leaves the assembler alone. -/
theorem byteIn_asm {v : Byte} {s t : State} (h : exec (.byteIn v) s = .next t) (hv : s.profile.valid = true) :
    t.asm = (storeByte v (clearStrobe s)).asm := by
  rcases byteIn_cases h with ⟨hno, -⟩ | ⟨-, -, rfl⟩ | ⟨-, -, hrow⟩
  · exact absurd (hno.symm.trans hv) Bool.false_ne_true
  · rfl
  · obtain ⟨hb, hl⟩ := decodeFrame_is_row s.profile.gen (bufferWith v s)
    obtain ⟨-, -, -, hasm⟩ := frameRow_frame _ _ t hb hl hrow
    exact hasm

/-- CNT counts the bytes modulo CFG_PKTSIZE, whatever their values (20_memory.md R45). -/
theorem byteIn_cnt {v : Byte} {s t : State} (h : exec (.byteIn v) s = .next t) (hv : s.profile.valid = true)
    (hin : s.asm.cnt.val < s.profile.pktsize.toNat) :
    t.asm.cnt.val = (s.asm.cnt.val + 1) % s.profile.pktsize.toNat := by
  rw [byteIn_asm h hv]
  cases hc : completesFrame s with
  | true =>
    rw [storeByte_complete v s hc, (completesFrame_iff s).1 hc, Nat.mod_self]
    rfl
  | false =>
    have hlast : s.asm.cnt.val + 1 ≠ s.profile.pktsize.toNat := fun he =>
      Bool.false_ne_true (hc.symm.trans ((completesFrame_iff s).2 he))
    have hnext : s.asm.cnt.val + 1 < s.profile.pktsize.toNat := by omega
    rw [storeByte_partial v s hc, Nat.mod_eq_of_lt hnext]
    exact cnt_succ_val _ _ hnext

/-- The step that takes an offered byte. -/
theorem step_byte {v : Byte} {s : State} {rest : List Transaction} (hv : s.profile.valid = true)
    (hin : s.asm.cnt.val < s.profile.pktsize.toNat) (hp : s.power.stage = .intact) (hs : s.inputs = .port8 v :: rest) :
    ∃ t, step s = .next t ∧ t.inputs = rest ∧ t.power = s.power ∧ t.profile = s.profile ∧
      t.asm.cnt.val = (s.asm.cnt.val + 1) % s.profile.pktsize.toNat := by
  obtain ⟨t, ht⟩ := exec_next (.byteIn v) (s.setInputs rest)
  obtain ⟨hinputs, hpower⟩ := exec_keeps_inputs_power _ _ t ht
  have hprofile := byteIn_keeps_profile ht
  have hcnt := byteIn_cnt ht hv hin
  exact ⟨t, (step_port_intact s (.port8 v) rest _ hs rfl hp).trans ht, hinputs, hpower, hprofile, hcnt⟩

/-! ## The bytes of a frame in the frame buffer -/

/-- A frame buffer after bytes are stored one behind the other, from place `n` on. -/
def storeFrom : List Byte → Nat → Vector Byte 6 → Vector Byte 6
  | [], _, fb => fb
  | v :: bs, n, fb => storeFrom bs (n + 1) (fb.setIfInBounds n v)

/-- Byte `i` of the buffer is the `(i - n)`-th byte to arrive, where there is one (20_memory.md R41). -/
theorem storeFrom_getElem (bs : List Byte) (n : Nat) (fb : Vector Byte 6) (i : Nat) (hi : i < 6) :
    (storeFrom bs n fb)[i] = if n ≤ i then bs[i - n]?.getD fb[i] else fb[i] := by
  induction bs generalizing n fb with
  | nil => simp [storeFrom]
  | cons v bs ih =>
    rw [storeFrom, ih, Vector.getElem_setIfInBounds]
    rcases Nat.lt_trichotomy i n with hlt | rfl | hgt
    · rw [if_neg (by omega), if_neg (by omega), if_neg (by omega)]
    · simp
    · have hsub : i - n = i - (n + 1) + 1 := by omega
      rw [if_pos (by omega), if_neg (by omega), if_pos (by omega), hsub, List.getElem?_cons_succ]

theorem storeFrom_six (b0 b1 b2 b3 b4 b5 : Byte) (fb : Vector Byte 6) :
    storeFrom [b0, b1, b2, b3, b4, b5] 0 fb = #v[b0, b1, b2, b3, b4, b5] := by
  ext i hi
  rw [storeFrom_getElem]
  interval_cases i <;> rfl

theorem storeFrom_four (b0 b1 b2 b3 : Byte) (fb : Vector Byte 6) :
    storeFrom [b0, b1, b2, b3] 0 fb = #v[b0, b1, b2, b3, fb[4], fb[5]] := by
  ext i hi
  rw [storeFrom_getElem]
  interval_cases i <;> rfl

theorem bufferWith_eq_setIfInBounds (v : Byte) (s : State) :
    bufferWith v s = s.asm.fb.setIfInBounds s.asm.cnt.val v := by
  ext i hi
  rw [bufferWith, Vector.getElem_set, Vector.getElem_setIfInBounds]

theorem execAll_cons {i : Instr} {s t : State} (rest : List Instr) (h : exec i s = .next t) :
    execAll (i :: rest) s = execAll rest t := by
  rw [execAll, h]

/-- The bytes that a frame still lacks, `v` the first of them, run the row of the frame they complete
(40_frame_assembly.md R70, R73). -/
theorem execAll_byteIn_complete (v : Byte) (bs : List Byte) (s : State) (hv : s.profile.valid = true)
    (hlen : s.asm.cnt.val + (bs.length + 1) = s.profile.pktsize.toNat) :
    execAll ((v :: bs).map .byteIn) s =
      exec (decodeFrame s.profile.gen (storeFrom (v :: bs) s.asm.cnt.val s.asm.fb))
        { s with
          asm := ⟨storeFrom (v :: bs) s.asm.cnt.val s.asm.fb, 0⟩
          event := ⟨false, s.event.dx, s.event.dy, s.event.buttons⟩ } := by
  induction bs generalizing v s with
  | nil =>
    have hc : completesFrame s = true := (completesFrame_iff s).2 hlen
    rw [List.map_singleton, execAll_one, exec_byteIn_complete v s hv hc, bufferWith_eq_setIfInBounds]
    rfl
  | cons w bs ih =>
    rw [List.length_cons] at hlen
    have hc : completesFrame s = false := by
      rw [Bool.eq_false_iff, Ne, completesFrame_iff]
      omega
    have hcnt : (s.asm.cnt + 1).val = s.asm.cnt.val + 1 := cnt_succ_val _ s.profile.pktsize (by omega)
    rw [List.map_cons, execAll_cons _ (exec_byteIn_partial v s hv hc)]
    refine (ih w _ ?_ ?_).trans ?_
    · exact hv
    · change (s.asm.cnt + 1).val + (bs.length + 1) = s.profile.pktsize.toNat
      omega
    · simp only [hcnt, bufferWith_eq_setIfInBounds]
      rfl

/-! ## The statements -/

/-- Settles O10: the bytes complete the frame that storing them one behind the other leaves in the buffer. -/
theorem wholeFrameInArrivalOrder : Obligations.WholeFrameInArrivalOrder := by
  unfold Obligations.WholeFrameInArrivalOrder
  constructor
  · intro s b0 b1 b2 b3 b4 b5 hv hcnt hsize
    have h := execAll_byteIn_complete b0 [b1, b2, b3, b4, b5] s hv (by rw [hcnt, hsize]; rfl)
    rwa [hcnt, Fin.val_zero, storeFrom_six] at h
  · intro s b0 b1 b2 b3 hv hcnt hsize
    have h := execAll_byteIn_complete b0 [b1, b2, b3] s hv (by rw [hcnt, hsize]; rfl)
    rwa [hcnt, Fin.val_zero, storeFrom_four] at h

/-- Settles O12, by induction on the bytes offered: each advances CNT by one modulo CFG_PKTSIZE. -/
theorem framingByByteCount : Obligations.FramingByByteCount := by
  unfold Obligations.FramingByByteCount
  intro bs
  induction bs with
  | nil => exact fun s _ hin _ hs => ⟨s, rfl, hs, rfl, (Nat.mod_eq_of_lt hin).symm⟩
  | cons v bs ih =>
    intro s hv hin hp hs
    obtain ⟨t, hstep, hinputs, hpower, hprofile, hcnt⟩ := step_byte hv hin hp hs
    have hin' : t.asm.cnt.val < t.profile.pktsize.toNat := by
      rw [hcnt, hprofile]
      exact Nat.mod_lt _ (Nat.zero_lt_of_lt hin)
    obtain ⟨u, hrun, hu, huprofile, hucnt⟩ := ih t (hprofile ▸ hv) hin' (hpower ▸ hp) hinputs
    refine ⟨u, (run_succ _ s t hstep).trans hrun, hu, huprofile.trans hprofile, ?_⟩
    rw [hucnt, hprofile, hcnt, Nat.mod_add_mod, List.length_cons, Nat.add_right_comm, Nat.add_assoc]

end Sys2Proof.Machine
end

section
/-!
SUPPORT. The proofs of family 30_encoding.md: frame words by mask and match, the round trips of decoder and encoder, and
the instruction that an offered or a placed word runs.
-/

namespace Sys2Proof.Machine

open Sys2Proof.Spec

/-! ## Masks on a frame word act on its bytes (30_encoding.md R52, 20_memory.md R43) -/

theorem frameByte_and (w m : FrameWord) (k : Nat) : frameByte (w &&& m) k = frameByte w k &&& frameByte m k :=
  BitVec.extractLsb'_and

theorem eq_frameWord_iff (w : FrameWord) (e0 e1 e2 e3 e4 e5 : Byte) :
    w = frameWord e0 e1 e2 e3 e4 e5 ↔
      frameByte w 0 = e0 ∧ frameByte w 1 = e1 ∧ frameByte w 2 = e2 ∧ frameByte w 3 = e3 ∧ frameByte w 4 = e4 ∧
        frameByte w 5 = e5 := by
  constructor
  · rintro rfl
    simp [frameByte_frameWord]
  · rintro ⟨rfl, rfl, rfl, rfl, rfl, rfl⟩
    exact (frameWord_frameBytes w).symm

/-- A frame word has the bits a mask takes exactly when each of its bytes has. -/
theorem takes_frameWord_iff (w : FrameWord) (m0 m1 m2 m3 m4 m5 e0 e1 e2 e3 e4 e5 : Byte) :
    Takes (frameWord m0 m1 m2 m3 m4 m5) (frameWord e0 e1 e2 e3 e4 e5) w ↔
      frameByte w 0 &&& m0 = e0 ∧ frameByte w 1 &&& m1 = e1 ∧ frameByte w 2 &&& m2 = e2 ∧
        frameByte w 3 &&& m3 = e3 ∧ frameByte w 4 &&& m4 = e4 ∧ frameByte w 5 &&& m5 = e5 := by
  rw [Takes, eq_frameWord_iff]
  simp only [frameByte_and, frameByte_frameWord, Nat.reduceLT, List.getElem_cons_zero, List.getElem_cons_succ]

/-- Debounce: the mask takes every bit (30_encoding.md R52). -/
theorem takes_debounce_iff (w : FrameWord) :
    Takes 0xFFFFFFFFFFFF#48 0xC4FFFF02FFFF#48 w ↔
      frameByte w 0 = 0xC4 ∧ frameByte w 1 = 0xFF ∧ frameByte w 2 = 0xFF ∧ frameByte w 3 = 0x02 ∧
        frameByte w 4 = 0xFF ∧ frameByte w 5 = 0xFF := by
  have kept (b : Byte) : b &&& 0xFF = b := BitVec.and_allOnes
  have h := takes_frameWord_iff w 0xFF 0xFF 0xFF 0xFF 0xFF 0xFF 0xC4 0xFF 0xFF 0x02 0xFF 0xFF
  simp only [kept] at h
  exact h

/-- A pattern of bytes 0 and 3 alone. -/
theorem takes_bytes_0_3_iff (w : FrameWord) (m0 m3 e0 e3 : Byte) :
    Takes (frameWord m0 0 0 m3 0 0) (frameWord e0 0 0 e3 0 0) w ↔
      frameByte w 0 &&& m0 = e0 ∧ frameByte w 3 &&& m3 = e3 := by
  have masked (b : Byte) : b &&& 0 = 0 := BitVec.and_zero
  simp only [takes_frameWord_iff, masked, true_and, and_true]

/-- Head (30_encoding.md R52). -/
theorem takes_head_iff (w : FrameWord) :
    Takes 0x0C0000CF0000#48 0x040000020000#48 w ↔ frameByte w 0 &&& 0x0C = 0x04 ∧ frameByte w 3 &&& 0xCF = 0x02 :=
  takes_bytes_0_3_iff w 0x0C 0xCF 0x04 0x02

/-- Tail (30_encoding.md R52). -/
theorem takes_tail_iff (w : FrameWord) :
    Takes 0x0C0000CE0000#48 0x0C00000C0000#48 w ↔ frameByte w 0 &&& 0x0C = 0x0C ∧ frameByte w 3 &&& 0xCE = 0x0C :=
  takes_bytes_0_3_iff w 0x0C 0xCE 0x0C 0x0C

/-- The classifier's byte tests are the mask and match tests on the word (41_classifier.md R80, 30_encoding.md R52). -/
theorem classifyV3_eq (w : FrameWord) :
    classifyV3 w =
      (if Takes 0xFFFFFFFFFFFF#48 0xC4FFFF02FFFF#48 w then .debounce
       else if Takes 0x0C0000CF0000#48 0x040000020000#48 w then .head
       else if Takes 0x0C0000CE0000#48 0x0C00000C0000#48 w then .tail
       else .unknown) := by
  simp only [takes_debounce_iff, takes_head_iff, takes_tail_iff]
  rfl

/-! ## The rows of Head and Tail by mask and match (30_encoding.md R54) -/

set_option maxRecDepth 4000 in
theorem byte_mask_CC (b : Byte) : (b &&& 0xCC).toNat = b.toNat / 64 * 64 + b.toNat / 4 % 4 * 4 := by revert b; decide

/-- Byte 0 of a row's pattern fixes the finger count and the class bits. -/
theorem byte0_takes_iff (w : FrameWord) (n c : BitVec 2) :
    frameByte w 0 &&& 0xCC = (n ++ 0#2 ++ c ++ 0#2 : Byte) ↔
      frameByte w 0 &&& 0x0C = (0#4 ++ c ++ 0#2 : Byte) ∧ fingersOf w = n := by
  have := (frameByte w 0).isLt
  have := n.isLt
  have := c.isLt
  simp only [← BitVec.toNat_inj, byte_mask_CC, byte_mask_0C, fingersOf, toNat_extractLsb'_div, toNat_append_add,
    BitVec.toNat_ofNat]
  omega

theorem takes_headRow_iff (w : FrameWord) (n : BitVec 2) :
    Takes 0xCC0000CF0000#48 (frameWord (n ++ 0#2 ++ 1#2 ++ 0#2) 0 0 0x02 0 0) w ↔
      Takes 0x0C0000CF0000#48 0x040000020000#48 w ∧ fingersOf w = n := by
  rw [takes_head_iff, and_right_comm]
  exact (takes_bytes_0_3_iff w 0xCC 0xCF _ 0x02).trans (and_congr_left' (byte0_takes_iff w n 1))

theorem takes_tailRow_iff (w : FrameWord) (n : BitVec 2) :
    Takes 0xCC0000CE0000#48 (frameWord (n ++ 0#2 ++ 3#2 ++ 0#2) 0 0 0x0C 0 0) w ↔
      Takes 0x0C0000CE0000#48 0x0C00000C0000#48 w ∧ fingersOf w = n := by
  rw [takes_tail_iff, and_right_comm]
  exact (takes_bytes_0_3_iff w 0xCC 0xCE _ 0x0C).trans (and_congr_left' (byte0_takes_iff w n 3))

/-! ## The class decides the patterns -/

theorem takes_debounce_iff_class (w : FrameWord) :
    Takes 0xFFFFFFFFFFFF#48 0xC4FFFF02FFFF#48 w ↔ classifyV3 w = .debounce := by
  rw [takes_debounce_iff, debounce_bytes_iff, classifyV3_eq_debounce_iff]

/-- The Head pattern takes the Head frames and, with three fingers, the Debounce word (30_encoding.md R53). -/
theorem takes_head_iff_class (w : FrameWord) :
    Takes 0x0C0000CF0000#48 0x040000020000#48 w ↔ classifyV3 w = .head ∨ classifyV3 w = .debounce := by
  have hd : headBits debounceWord.toNat := by simp [headBits, debounceWord]
  rw [takes_head_iff, head_bytes_iff, classifyV3_eq_head_iff, classifyV3_eq_debounce_iff]
  constructor
  · intro h
    by_cases hw : w.toNat = debounceWord.toNat
    · exact .inr hw
    · exact .inl ⟨h, hw⟩
  · rintro (⟨h, -⟩ | h)
    · exact h
    · exact h ▸ hd

theorem takes_tail_iff_class (w : FrameWord) :
    Takes 0x0C0000CE0000#48 0x0C00000C0000#48 w ↔ classifyV3 w = .tail := by
  rw [takes_tail_iff, tail_bytes_iff, classifyV3_eq_tail_iff]

/-- The Debounce word has three fingers (30_encoding.md R52). -/
theorem fingersOf_of_debounce (w : FrameWord) (h : classifyV3 w = .debounce) : fingersOf w = 3 := by
  rw [classifyV3_eq_debounce_iff, BitVec.toNat_inj] at h
  subst h
  decide

/-- Class and finger count give the row (30_encoding.md R54). -/
theorem decodeV3_row_iff (w : FrameWord) :
    (decodeV3 w = .v3Debounce ↔ classifyV3 w = .debounce) ∧
    ((∃ f, decodeV3 w = .v3HeadF0 f) ↔ classifyV3 w = .head ∧ fingersOf w = 0) ∧
    ((∃ f, decodeV3 w = .v3HeadF1 f) ↔ classifyV3 w = .head ∧ fingersOf w = 1) ∧
    ((∃ f, decodeV3 w = .v3HeadF2 f) ↔ classifyV3 w = .head ∧ fingersOf w = 2) ∧
    ((∃ f, decodeV3 w = .v3HeadF3 f) ↔ classifyV3 w = .head ∧ fingersOf w = 3) ∧
    ((∃ f, decodeV3 w = .v3TailF0 f) ↔ classifyV3 w = .tail ∧ fingersOf w = 0) ∧
    ((∃ f, decodeV3 w = .v3TailF1 f) ↔ classifyV3 w = .tail ∧ fingersOf w = 1) ∧
    ((∃ f, decodeV3 w = .v3TailF2 f) ↔ classifyV3 w = .tail ∧ fingersOf w = 2) ∧
    ((∃ f, decodeV3 w = .v3TailF3 f) ↔ classifyV3 w = .tail ∧ fingersOf w = 3) ∧
    (decodeV3 w = .v3Unknown w ↔ classifyV3 w = .unknown) := by
  rcases decodeV3_cases w with ⟨hc, hd⟩ | ⟨hc, hd⟩ | ⟨hc, hn, hd⟩ | ⟨hc, hn, hd⟩ | ⟨hc, hn, hd⟩ | ⟨hc, hn, hd⟩ |
    ⟨hc, hn, hd⟩ | ⟨hc, hn, hd⟩ | ⟨hc, hn, hd⟩ | ⟨hc, hn, hd⟩ <;> simp [*]

/-- Below three fingers no Head word is the Debounce word (30_encoding.md R53). -/
theorem takes_headRow_iff_class (w : FrameWord) (n : BitVec 2) (hn : n ≠ 3) :
    Takes 0xCC0000CF0000#48 (frameWord (n ++ 0#2 ++ 1#2 ++ 0#2) 0 0 0x02 0 0) w ↔
      classifyV3 w = .head ∧ fingersOf w = n := by
  rw [takes_headRow_iff, takes_head_iff_class]
  constructor
  · rintro ⟨hhead | hdebounce, rfl⟩
    · exact ⟨hhead, rfl⟩
    · exact absurd (fingersOf_of_debounce w hdebounce) hn
  · rintro ⟨hhead, hf⟩
    exact ⟨.inl hhead, hf⟩

theorem takes_headRow3_iff_class (w : FrameWord) :
    Takes 0xCC0000CF0000#48 0xC40000020000#48 w ∧ ¬ Takes 0xFFFFFFFFFFFF#48 0xC4FFFF02FFFF#48 w ↔
      classifyV3 w = .head ∧ fingersOf w = 3 := by
  rw [takes_debounce_iff_class]
  refine (and_congr_left' (takes_headRow_iff w 3)).trans ?_
  rw [takes_head_iff_class]
  cases classifyV3 w <;> simp

theorem takes_tailRow_iff_class (w : FrameWord) (n : BitVec 2) :
    Takes 0xCC0000CE0000#48 (frameWord (n ++ 0#2 ++ 3#2 ++ 0#2) 0 0 0x0C 0 0) w ↔
      classifyV3 w = .tail ∧ fingersOf w = n := by
  rw [takes_tailRow_iff, takes_tail_iff_class]

theorem takes_none_iff_class (w : FrameWord) :
    (¬ Takes 0xFFFFFFFFFFFF#48 0xC4FFFF02FFFF#48 w ∧ ¬ Takes 0x0C0000CF0000#48 0x040000020000#48 w ∧
      ¬ Takes 0x0C0000CE0000#48 0x0C00000C0000#48 w) ↔ classifyV3 w = .unknown := by
  rw [takes_debounce_iff_class, takes_head_iff_class, takes_tail_iff_class]
  cases classifyV3 w <;> simp

/-! ## Words and their bytes, in both directions -/

theorem frameBytes_frameWord (b0 b1 b2 b3 b4 b5 : Byte) :
    frameBytes (frameWord b0 b1 b2 b3 b4 b5) = [b0, b1, b2, b3, b4, b5] := by
  simp [frameBytes, frameByte_frameWord]

theorem shortFrameBytes_shortFrameWord (b0 b1 b2 b3 : Byte) :
    shortFrameBytes (shortFrameWord b0 b1 b2 b3) = [b0, b1, b2, b3] := by
  simp [shortFrameBytes, shortFrameByte_shortFrameWord]

theorem decodeBytes_frame_g1 (w : ShortFrameWord) : decodeBytes (.frame .g1) (shortFrameBytes w) = .ok (.v1Frame w) :=
  congrArg (Except.ok <| Instr.v1Frame ·) (shortFrameWord_shortFrameBytes w)

theorem decodeBytes_frame_g2 (w : FrameWord) : decodeBytes (.frame .g2) (frameBytes w) = .ok (.v2Frame w) :=
  congrArg (Except.ok <| Instr.v2Frame ·) (frameWord_frameBytes w)

theorem decodeBytes_frame_g3 (w : FrameWord) : decodeBytes (.frame .g3) (frameBytes w) = .ok (decodeV3 w) :=
  congrArg (Except.ok <| decodeV3 ·) (frameWord_frameBytes w)

/-- A generation-3 frame decodes to the row of its word. -/
theorem decodeBytes_of_decodeV3 {w : FrameWord} {i : Instr} (h : decodeV3 w = i) :
    decodeBytes (.frame .g3) (frameBytes w) = .ok i :=
  (decodeBytes_frame_g3 w).trans (congrArg _ h)

theorem decodeBytes_frame_g4 (w : FrameWord) : decodeBytes (.frame .g4) (frameBytes w) = .ok (.v4Frame w) :=
  congrArg (Except.ok <| Instr.v4Frame ·) (frameWord_frameBytes w)

/-! ## CFG_LOAD's word (opcode_table.json; log 9) -/

/-- The word that five bytes of the configuration port hold, without the three bits above it (log 9). -/
def configWordOf (c0 c1 c2 c3 c4 : Byte) : ConfigWord := c0.extractLsb' 0 5 ++ c1 ++ c2 ++ c3 ++ c4

theorem configWordOf_toNat (c0 c1 c2 c3 c4 : Byte) :
    (configWordOf c0 c1 c2 c3 c4).toNat =
      c0.toNat % 32 * 2 ^ 32 + c1.toNat * 2 ^ 24 + c2.toNat * 2 ^ 16 + c3.toNat * 2 ^ 8 + c4.toNat := by
  change (c0.extractLsb' 0 5 ++ c1 ++ c2 ++ c3 ++ c4).toNat = _
  simp only [toNat_append_add, toNat_extractLsb'_div]
  omega

theorem decodeBytes_configBytes (c : ConfigWord) : decodeBytes .portCfg (configBytes c) = .ok (decodeConfig c) := by
  have htop : (0#3 ++ c.extractLsb' 32 5 : Byte).extractLsb' 5 3 = 0#3 := by
    apply BitVec.eq_of_toNat_eq
    have := (c.extractLsb' 32 5).isLt
    simp only [toNat_append_add, toNat_extractLsb'_div, BitVec.toNat_ofNat]
    omega
  have hword : configWordOf (0#3 ++ c.extractLsb' 32 5) (c.extractLsb' 24 8) (c.extractLsb' 16 8) (c.extractLsb' 8 8)
      (c.extractLsb' 0 8) = c := by
    apply BitVec.eq_of_toNat_eq
    have := c.isLt
    simp only [configWordOf_toNat, toNat_append_add, toNat_extractLsb'_div, BitVec.toNat_ofNat]
    omega
  change (if _ then Except.ok (decodeConfig (configWordOf _ _ _ _ _)) else _) = _
  rw [if_pos htop, hword]

/-- Five bytes with the three top bits 0 are the bytes of the word they hold. -/
theorem configBytes_configWordOf (c0 c1 c2 c3 c4 : Byte) (htop : c0.extractLsb' 5 3 = 0#3) :
    configBytes (configWordOf c0 c1 c2 c3 c4) = [c0, c1, c2, c3, c4] := by
  have h0 : c0.toNat / 32 % 8 = 0 := (toNat_extractLsb'_div 5 3 c0).symm.trans (congrArg BitVec.toNat htop)
  have := c0.isLt; have := c1.isLt; have := c2.isLt; have := c3.isLt; have := c4.isLt
  simp only [configBytes, List.cons.injEq, and_true]
  refine ⟨?_, ?_, ?_, ?_, ?_⟩ <;> apply BitVec.eq_of_toNat_eq <;>
    simp only [configWordOf_toNat, toNat_append_add, toNat_extractLsb'_div, BitVec.toNat_ofNat] <;> omega

theorem decodeConfig_configWord (fw : Firmware) (ymax : BitVec 12) (o : ParityOverride) :
    decodeConfig (configWord fw ymax o) = .cfgLoad fw ymax o := by
  have := fw.isLt
  have := ymax.isLt
  have hfw : (configWord fw ymax o).extractLsb' 13 24 = fw := by
    apply BitVec.eq_of_toNat_eq
    rw [toNat_extractLsb'_div, configWord_toNat]
    cases o <;> dsimp only <;> omega
  have hymax : (configWord fw ymax o).extractLsb' 1 12 = ymax := by
    apply BitVec.eq_of_toNat_eq
    rw [toNat_extractLsb'_div, configWord_toNat]
    cases o <;> dsimp only <;> omega
  have ho : (configWord fw ymax o).extractLsb' 0 1 = 1#1 ↔ o = .forceZero := by
    rw [← BitVec.toNat_inj, toNat_extractLsb'_div, configWord_toNat, BitVec.toNat_ofNat]
    cases o <;> simp <;> omega
  rw [decodeConfig, hfw, hymax]
  cases o <;> simp [ho]

theorem encode_decodeConfig (c : ConfigWord) : encode (decodeConfig c) = configBytes c := by
  refine congrArg configBytes (BitVec.eq_of_toNat_eq ?_)
  have := c.isLt
  have hbit : (c.extractLsb' 0 1 = 1#1) ↔ c.toNat % 2 = 1 := by
    rw [← BitVec.toNat_inj, toNat_extractLsb'_div]
    simp
  simp only [configWord_toNat, toNat_extractLsb'_div, hbit]
  split_ifs <;> dsimp only <;> omega

/-! ## A generation-3 word and its row, in both directions -/

theorem classifyV3_headWord (n : BitVec 2) (f : HeadFields) (h : ¬ (n = 3 ∧ f = HeadFields.debounce)) :
    classifyV3 (headWord n f) = .head :=
  (classifyV3_eq_head_iff _).2 ⟨headBits_headWord n f, fun hd => h ((headWord_eq_debounceWord_iff n f).1 hd)⟩

theorem classifyV3_tailWord (n : BitVec 2) (f : TailFields) : classifyV3 (tailWord n f) = .tail :=
  (classifyV3_eq_tail_iff _).2 (tailBits_tailWord n f)

theorem wf_v3Unknown_iff (w : FrameWord) : (Instr.v3Unknown w).wf = true ↔ classifyV3 w = .unknown := by
  rw [← takes_none_iff_class]
  simp [Instr.wf, WordPattern.takes, WordPattern.debounce, WordPattern.head, WordPattern.tail, Takes, and_assoc]

/-- A Head word is the word of its row's operands (30_encoding.md R51, R54). -/
theorem headWord_of_class {w : FrameWord} {n : BitVec 2} (hc : classifyV3 w = .head) (hn : fingersOf w = n) :
    headWord n (headFields w) = w :=
  hn ▸ headWord_headFields w ((classifyV3_eq_head_iff w).1 hc).1

/-- A Tail word is the word of its row's operands (30_encoding.md R51, R54). -/
theorem tailWord_of_class {w : FrameWord} {n : BitVec 2} (hc : classifyV3 w = .tail) (hn : fingersOf w = n) :
    tailWord n (tailFields w) = w :=
  hn ▸ tailWord_tailFields w ((classifyV3_eq_tail_iff w).1 hc)

/-- The operands of the Debounce word are never those of a decoded V3_HEAD_F3 (30_encoding.md R53). -/
theorem headFields_ne_debounce {w : FrameWord} (hc : classifyV3 w = .head) (hn : fingersOf w = 3) :
    headFields w ≠ HeadFields.debounce := by
  intro hf
  have hw := headWord_of_class hc hn
  have hd := (headWord_eq_debounceWord_iff 3 (headFields w)).2 ⟨rfl, hf⟩
  rw [hw] at hd
  exact ((classifyV3_eq_head_iff w).1 hc).2 hd

/-- The row of a generation-3 word is well formed, and its bytes are the word's. -/
theorem decodeV3_roundTrip (w : FrameWord) :
    (decodeV3 w).wf = true ∧ formatOf (decodeV3 w) = .frame .g3 ∧ encode (decodeV3 w) = frameBytes w := by
  rcases decodeV3_cases w with ⟨hc, hd⟩ | ⟨hc, hd⟩ | ⟨hc, hn, hd⟩ | ⟨hc, hn, hd⟩ | ⟨hc, hn, hd⟩ | ⟨hc, hn, hd⟩ |
    ⟨hc, hn, hd⟩ | ⟨hc, hn, hd⟩ | ⟨hc, hn, hd⟩ | ⟨hc, hn, hd⟩ <;> rw [hd]
  · rw [classifyV3_eq_debounce_iff, BitVec.toNat_inj] at hc
    exact ⟨rfl, rfl, congrArg frameBytes hc.symm⟩
  · exact ⟨(wf_v3Unknown_iff w).2 hc, rfl, rfl⟩
  · exact ⟨rfl, rfl, congrArg frameBytes (headWord_of_class hc hn)⟩
  · exact ⟨rfl, rfl, congrArg frameBytes (headWord_of_class hc hn)⟩
  · exact ⟨rfl, rfl, congrArg frameBytes (headWord_of_class hc hn)⟩
  · exact ⟨bne_iff_ne.2 (headFields_ne_debounce hc hn), rfl, congrArg frameBytes (headWord_of_class hc hn)⟩
  · exact ⟨rfl, rfl, congrArg frameBytes (tailWord_of_class hc hn)⟩
  · exact ⟨rfl, rfl, congrArg frameBytes (tailWord_of_class hc hn)⟩
  · exact ⟨rfl, rfl, congrArg frameBytes (tailWord_of_class hc hn)⟩
  · exact ⟨rfl, rfl, congrArg frameBytes (tailWord_of_class hc hn)⟩

/-- The word of a Head row decodes to the row with the word's finger count (30_encoding.md R54). -/
theorem decodeV3_headWord (n : BitVec 2) (f : HeadFields) (h : ¬ (n = 3 ∧ f = HeadFields.debounce)) :
    decodeV3 (headWord n f) =
      if n = 0 then .v3HeadF0 f else if n = 1 then .v3HeadF1 f else if n = 2 then .v3HeadF2 f else .v3HeadF3 f := by
  simp only [decodeV3, classifyV3_headWord n f h, fingersOf_headWord, headFields_headWord]

/-- The word of a Tail row decodes to the row with the word's finger count (30_encoding.md R54). -/
theorem decodeV3_tailWord (n : BitVec 2) (f : TailFields) :
    decodeV3 (tailWord n f) =
      if n = 0 then .v3TailF0 f else if n = 1 then .v3TailF1 f else if n = 2 then .v3TailF2 f else .v3TailF3 f := by
  simp only [decodeV3, classifyV3_tailWord n f, fingersOf_tailWord, tailFields_tailWord]

theorem decodeV3_debounceWord : decodeV3 debounceWord = .v3Debounce := by
  simp only [decodeV3, (classifyV3_eq_debounce_iff debounceWord).2 rfl]

theorem decodeV3_of_unknown (w : FrameWord) (h : classifyV3 w = .unknown) : decodeV3 w = .v3Unknown w := by
  simp only [decodeV3, h]

/-! ## The instructions that bytes can decode to -/

/-- Everything the decoder can answer in a format, and the bytes it answers it for. -/
theorem decodeBytes_ok_cases {fmt : Format} {bs : List Byte} {i : Instr} (h : decodeBytes fmt bs = .ok i) :
    (∃ v, fmt = .port8 ∧ bs = [v] ∧ i = .byteIn v) ∨
    (∃ c, fmt = .portCfg ∧ bs = configBytes c ∧ i = decodeConfig c) ∨
    (∃ w, fmt = .frame .g1 ∧ bs = shortFrameBytes w ∧ i = .v1Frame w) ∨
    (∃ w, fmt = .frame .g2 ∧ bs = frameBytes w ∧ i = .v2Frame w) ∨
    (∃ w, fmt = .frame .g3 ∧ bs = frameBytes w ∧ i = decodeV3 w) ∨
    (∃ w, fmt = .frame .g4 ∧ bs = frameBytes w ∧ i = .v4Frame w) := by
  unfold decodeBytes at h
  split at h
  case h_1 v =>
    cases h
    exact .inl ⟨v, rfl, rfl, rfl⟩
  case h_2 c0 c1 c2 c3 c4 =>
    split at h
    case isTrue htop =>
      cases h
      exact .inr (.inl ⟨_, rfl, (configBytes_configWordOf c0 c1 c2 c3 c4 htop).symm, rfl⟩)
    case isFalse => cases h
  case h_3 =>
    cases h
    exact .inr (.inr (.inl ⟨_, rfl, (shortFrameBytes_shortFrameWord ..).symm, rfl⟩))
  case h_4 =>
    cases h
    exact .inr (.inr (.inr (.inl ⟨_, rfl, (frameBytes_frameWord ..).symm, rfl⟩)))
  case h_5 =>
    cases h
    exact .inr (.inr (.inr (.inr (.inl ⟨_, rfl, (frameBytes_frameWord ..).symm, rfl⟩))))
  case h_6 =>
    cases h
    exact .inr (.inr (.inr (.inr (.inr ⟨_, rfl, (frameBytes_frameWord ..).symm, rfl⟩))))
  case h_7 => cases h

/-- Bytes of another number than the format's are refused by name. -/
theorem decodeBytes_wrongLength (fmt : Format) (bs : List Byte) (h : bs.length ≠ Laws.formatLength fmt) :
    decodeBytes fmt bs = .error (.wrongLength fmt bs.length) := by
  unfold decodeBytes
  split
  case h_7 => rfl
  all_goals exact absurd rfl h

/-! ## The operand fields as numbers (30_encoding.md R57) -/

/-- A 12-bit coordinate from its two bytes. -/
theorem coordinate_toNat (a b : Byte) :
    (a.extractLsb' 0 4 ++ b : BitVec 12).toNat = ((a.toNat &&& 0x0F) <<< 8) ||| b.toNat := by
  have hlow : (a.extractLsb' 0 4).toNat = a.toNat &&& 0x0F := (Nat.and_two_pow_sub_one_eq_mod _ 4).symm
  exact (BitVec.toNat_append _ _).trans (by rw [hlow])

/-! ## The bytes of a Head or Tail frame (30_encoding.md R61) -/

/-- Byte 0 as R61 writes it: the Head bits 0x04 and the Tail bits 0x0C beside finger count and buttons. -/
theorem byte0_eq (n : BitVec 2) (r l : Bool) :
    (n ++ 1#4 ++ (BitVec.ofBool r ++ BitVec.ofBool l) : Byte) =
      BitVec.ofNat 8 ((n.toNat <<< 6) ||| 0x04 ||| (r.toNat <<< 1) ||| l.toNat) ∧
    (n ++ 3#4 ++ (BitVec.ofBool r ++ BitVec.ofBool l) : Byte) =
      BitVec.ofNat 8 ((n.toNat <<< 6) ||| 0x0C ||| (r.toNat <<< 1) ||| l.toNat) := by
  revert n r l
  decide

/-- The two bytes of a coordinate as R61 writes them. -/
theorem coordinate_bytes_toNat (z : BitVec 12) :
    (BitVec.ofNat 8 (z.toNat >>> 8)).toNat * 2 ^ 8 + (BitVec.ofNat 8 (z.toNat &&& 0xFF)).toNat = z.toNat := by
  have hlow : z.toNat &&& 0xFF = z.toNat % 256 := Nat.and_two_pow_sub_one_eq_mod _ 8
  have := z.isLt
  simp only [BitVec.toNat_ofNat, Nat.shiftRight_eq_div_pow, hlow]
  omega

/-- A Head word without uninterpreted bits, by its bytes (30_encoding.md R61). -/
theorem headWord_eq_frameWord (n b : BitVec 2) {x yraw : BitVec 12} {xh xl yh yl : Byte}
    (hx : xh.toNat * 2 ^ 8 + xl.toNat = x.toNat) (hy : yh.toNat * 2 ^ 8 + yl.toNat = yraw.toNat) :
    headWord n ⟨0, b, 0, x, 0, 0, yraw⟩ = frameWord (n ++ 1#4 ++ b) xh xl 0x02 yh yl := by
  apply BitVec.eq_of_toNat_eq
  simp only [headWord_toNat, frameWord_toNat, toNat_append_add, BitVec.ofNat_eq_ofNat, BitVec.reduceToNat]
  linarith

/-- A Tail word without uninterpreted bits, by its bytes (30_encoding.md R61). -/
theorem tailWord_eq_frameWord (n b : BitVec 2) {x yraw : BitVec 12} {xh xl yh yl : Byte}
    (hx : xh.toNat * 2 ^ 8 + xl.toNat = x.toNat) (hy : yh.toNat * 2 ^ 8 + yl.toNat = yraw.toNat) :
    tailWord n ⟨0, b, 0, x, 0, 0, 0, yraw⟩ = frameWord (n ++ 3#4 ++ b) xh xl 0x0C yh yl := by
  apply BitVec.eq_of_toNat_eq
  simp only [tailWord_toNat, frameWord_toNat, toNat_append_add, BitVec.ofNat_eq_ofNat, BitVec.reduceToNat]
  linarith

/-- A Head word whose B1[7:4] is 0 is not the Debounce word, whose B1[7:4] is 0xF (30_encoding.md R61). -/
theorem headWord_ne_debounceWord (n : BitVec 2) (f : HeadFields) (h : f.u1 = 0) : headWord n f ≠ debounceWord := by
  intro hw
  obtain ⟨-, rfl⟩ := (headWord_eq_debounceWord_iff n f).1 (congrArg BitVec.toNat hw)
  exact absurd h (by decide)

/-- No Tail word is the Debounce word, which has the Head bits (30_encoding.md R52, R53). -/
theorem tailWord_ne_debounceWord (n : BitVec 2) (f : TailFields) : tailWord n f ≠ debounceWord := by
  intro hw
  have h := tailBits_tailWord n f
  rw [hw] at h
  exact absurd h.1 (by decide)

/-! ## Placed words (log 3) -/

/-- Everything an opcode-table word can decode to, with the width it has (log 8, log 9). -/
theorem decodeTableWord_cases {nbits w : Nat} {i : Instr} (h : decodeTableWord nbits w = some i) :
    (nbits = 8 ∧ i = .byteIn (BitVec.ofNat 8 w)) ∨
    ((nbits = 37 ∨ nbits = 40) ∧ i = decodeConfig (BitVec.ofNat 37 w)) ∨
    (nbits = 32 ∧ i = .v1Frame (BitVec.ofNat 32 w)) ∨
    (nbits = 48 ∧ i = decodeV3 (BitVec.ofNat 48 w)) := by
  unfold decodeTableWord at h
  rw [decodeBytes_configBytes, decodeBytes_frame_g1, decodeBytes_frame_g3] at h
  split_ifs at h with h8 hcfg h32 h48 <;> cases h
  · exact .inl ⟨h8.1, rfl⟩
  · exact .inr (.inl ⟨hcfg.1, rfl⟩)
  · exact .inr (.inr (.inl ⟨h32.1, rfl⟩))
  · exact .inr (.inr (.inr ⟨h48.1, rfl⟩))

theorem step_offerFirst (s : State) (tr : Transaction) (i : Instr) (hd : decodeTransaction tr = some i) :
    step (offerFirst tr s) = exec i { s with power := ⟨.intact, s.power.transitions⟩ } :=
  step_port_intact (offerFirst tr s) tr s.inputs i rfl hd rfl

/-- The last byte of a placed generation-1 frame completes it. -/
theorem decodeFrame_placeShortFrame (w : ShortFrameWord) (s : State) :
    decodeFrame .g1 (bufferWith (shortFrameByte w 3) (placeShortFrame w s)) = .v1Frame w := by
  simp [decodeFrame, bufferWith, placeShortFrame, shortFrameWord_shortFrameBytes]

/-- The last byte of a placed generation-3 frame completes it. -/
theorem decodeFrame_placeFrame (w : FrameWord) (s : State) :
    decodeFrame .g3 (bufferWith (frameByte w 5) (placeFrame w s)) = decodeV3 w := by
  simp [decodeFrame, bufferWith, placeFrame, frameWord_frameBytes]

/-- The step that takes a frame's last byte, offered ahead of all others, runs the frame's row. -/
theorem step_offerLastByte (v : Byte) (s : State) (hv : s.profile.valid = true) (hc : completesFrame s = true) :
    step (offerFirst (.port8 v) s) =
      exec (decodeFrame s.profile.gen (bufferWith v s))
        { s with
          asm := ⟨bufferWith v s, 0⟩
          event := ⟨false, s.event.dx, s.event.dy, s.event.buttons⟩
          power := ⟨.intact, s.power.transitions⟩ } :=
  (step_offerFirst s _ _ rfl).trans (exec_byteIn_complete v _ hv hc)

/-! ## The decoder reads neither VERDICT nor the diagnostics -/

/-- Other values of the two outputs that name a frame: VERDICT and the diagnostics (40_frame_assembly.md R73,
42_position_decoder.md R103). -/
def State.withFrameOutputs (v : Verdict) (d : Diagnostics) (s : State) : State :=
  { s with status := ⟨v, s.status.malformed⟩, diag := d }

section
variable (v : Verdict) (d : Diagnostics) (s : State)

theorem State.withFrameOutputs_gesture : (s.withFrameOutputs v d).gesture = s.gesture := rfl

theorem State.withFrameOutputs_slot (k : SlotId) : (s.withFrameOutputs v d).slot k = s.slot k := by cases k <;> rfl

theorem setSlot_withFrameOutputs (k : SlotId) (t : FingerTrack) :
    (s.withFrameOutputs v d).setSlot k t = (s.setSlot k t).withFrameOutputs v d := by cases k <;> rfl

theorem emitMotion_withFrameOutputs (p : Point) (b : BitVec 2) :
    emitMotion p b (s.withFrameOutputs v d) = (emitMotion p b s).withFrameOutputs v d := by
  unfold emitMotion
  rw [State.withFrameOutputs_gesture]
  cases s.gesture.last? <;> rfl

theorem setPos_withFrameOutputs (k : SlotId) (p : Point) :
    setPos k p (s.withFrameOutputs v d) = (setPos k p s).withFrameOutputs v d := by
  rw [setPos, State.withFrameOutputs_slot, setSlot_withFrameOutputs]
  rfl

theorem latchStart_withFrameOutputs (k : SlotId) (p : Point) :
    latchStart k p (s.withFrameOutputs v d) = (latchStart k p s).withFrameOutputs v d := by
  rw [latchStart, State.withFrameOutputs_slot, setSlot_withFrameOutputs]
  rfl

theorem disqualify_withFrameOutputs (k : SlotId) :
    disqualify k (s.withFrameOutputs v d) = (disqualify k s).withFrameOutputs v d := by
  rw [disqualify, State.withFrameOutputs_slot, setSlot_withFrameOutputs]
  cases k <;> rfl

theorem tapTrack_withFrameOutputs (k : SlotId) (p : Point) :
    tapTrack k p (s.withFrameOutputs v d) = (tapTrack k p s).withFrameOutputs v d := by
  unfold tapTrack
  rw [State.withFrameOutputs_slot]
  cases (s.slot k).start? with
  | none => exact latchStart_withFrameOutputs v d s k p
  | some start =>
    dsimp only [tapCompare]
    split
    · exact disqualify_withFrameOutputs v d s k
    · rfl

theorem decodeF0_withFrameOutputs (b : BitVec 2) :
    decodeF0 b (s.withFrameOutputs v d) = (decodeF0 b s).withFrameOutputs v d := by
  rw [decodeF0_eq, decodeF0_eq]
  rfl

theorem decodeF1_withFrameOutputs (x yraw : BitVec 12) (b : BitVec 2) :
    decodeF1 x yraw b (s.withFrameOutputs v d) = (decodeF1 x yraw b s).withFrameOutputs v d := by
  cases h : (decodeSample s.profile.ymax x yraw).isValid with
  | false =>
    rw [decodeF1_invalid x yraw b s h, decodeF1_invalid x yraw b (s.withFrameOutputs v d) h]
    rfl
  | true =>
    rw [decodeF1_valid x yraw b s h, decodeF1_valid x yraw b (s.withFrameOutputs v d) h, emitMotion_withFrameOutputs]
    change setLastCount 1 (tapTrack .s0 _ (setPos .s0 _ ((setLast _ _).withFrameOutputs v d))) = _
    rw [setPos_withFrameOutputs, tapTrack_withFrameOutputs]
    rfl

theorem decodeF2_withFrameOutputs (k : SlotId) (x yraw : BitVec 12) :
    decodeF2 k x yraw (s.withFrameOutputs v d) = (decodeF2 k x yraw s).withFrameOutputs v d := by
  cases h : (decodeSample s.profile.ymax x yraw).isValid with
  | false =>
    rw [decodeF2_invalid k x yraw s h, decodeF2_invalid k x yraw (s.withFrameOutputs v d) h]
    rfl
  | true =>
    rw [decodeF2_valid k x yraw s h, decodeF2_valid k x yraw (s.withFrameOutputs v d) h, setPos_withFrameOutputs,
      tapTrack_withFrameOutputs]
    rfl

end

theorem sameButDiagnostics_withFrameOutputs {v : Verdict} {t : State} (d : Diagnostics) (h : t.status.verdict = v) :
    SameButDiagnostics t (t.withFrameOutputs v d) := by
  subst h
  rfl

section
variable {v : Verdict} {s : State} (d : Diagnostics) (h : s.status.verdict = v)
include h

theorem decodeF0_sameButDiagnostics (b : BitVec 2) :
    SameButDiagnostics (decodeF0 b s) (decodeF0 b (s.withFrameOutputs v d)) := by
  rw [decodeF0_withFrameOutputs]
  exact sameButDiagnostics_withFrameOutputs d (by rw [decodeF0_status, h])

theorem decodeF1_sameButDiagnostics (x yraw : BitVec 12) (b : BitVec 2) :
    SameButDiagnostics (decodeF1 x yraw b s) (decodeF1 x yraw b (s.withFrameOutputs v d)) := by
  rw [decodeF1_withFrameOutputs]
  exact sameButDiagnostics_withFrameOutputs d (by rw [decodeF1_verdict, h])

theorem decodeF2_sameButDiagnostics (k : SlotId) (x yraw : BitVec 12) :
    SameButDiagnostics (decodeF2 k x yraw s) (decodeF2 k x yraw (s.withFrameOutputs v d)) := by
  rw [decodeF2_withFrameOutputs]
  exact sameButDiagnostics_withFrameOutputs d (by rw [decodeF2_verdict, h])

end

/-! ## The statements -/

/-- Settles O18: the bytes of a row are those of its word, and the word decodes to the row. -/
theorem decodeOfEncode : Obligations.DecodeOfEncode := by
  unfold Obligations.DecodeOfEncode
  intro i hwf
  cases i with
  | byteIn v => rfl
  | cfgLoad fw ymax o => exact (decodeBytes_configBytes _).trans (congrArg _ (decodeConfig_configWord fw ymax o))
  | v3Debounce => exact decodeBytes_of_decodeV3 decodeV3_debounceWord
  | v3HeadF0 f => exact decodeBytes_of_decodeV3 (decodeV3_headWord 0 f (by simp))
  | v3HeadF1 f => exact decodeBytes_of_decodeV3 (decodeV3_headWord 1 f (by simp))
  | v3HeadF2 f => exact decodeBytes_of_decodeV3 (decodeV3_headWord 2 f (by simp))
  | v3HeadF3 f =>
    have hne : f ≠ HeadFields.debounce := bne_iff_ne.1 hwf
    exact decodeBytes_of_decodeV3 (decodeV3_headWord 3 f fun h => hne h.2)
  | v3TailF0 f => exact decodeBytes_of_decodeV3 (decodeV3_tailWord 0 f)
  | v3TailF1 f => exact decodeBytes_of_decodeV3 (decodeV3_tailWord 1 f)
  | v3TailF2 f => exact decodeBytes_of_decodeV3 (decodeV3_tailWord 2 f)
  | v3TailF3 f => exact decodeBytes_of_decodeV3 (decodeV3_tailWord 3 f)
  | v3Unknown w => exact decodeBytes_of_decodeV3 (decodeV3_of_unknown w ((wf_v3Unknown_iff w).1 hwf))
  | v1Frame w => exact decodeBytes_frame_g1 w
  | v2Frame w => exact decodeBytes_frame_g2 w
  | v4Frame w => exact decodeBytes_frame_g4 w

/-- Settles O19, by the decoder's six answers: each is well formed, and its bytes are those it was read from. -/
theorem encodeOfDecode : Obligations.EncodeOfDecode := by
  unfold Obligations.EncodeOfDecode
  intro fmt bs i h
  rcases decodeBytes_ok_cases h with ⟨v, rfl, rfl, rfl⟩ | ⟨c, rfl, rfl, rfl⟩ | ⟨w, rfl, rfl, rfl⟩ |
    ⟨w, rfl, rfl, rfl⟩ | ⟨w, rfl, rfl, rfl⟩ | ⟨w, rfl, rfl, rfl⟩
  · exact ⟨rfl, rfl, rfl⟩
  · exact ⟨rfl, rfl, encode_decodeConfig c⟩
  · exact ⟨rfl, rfl, rfl⟩
  · exact ⟨rfl, rfl, rfl⟩
  · exact decodeV3_roundTrip w
  · exact ⟨rfl, rfl, rfl⟩

/-- Settles O15: a mask on the word tests the bytes that the classifier tests, and no word has two classes. -/
theorem classesFollowWordPatterns : Obligations.ClassesFollowWordPatterns := by
  unfold Obligations.ClassesFollowWordPatterns
  refine ⟨classifyV3_eq, fun w => ?_, by decide, by decide⟩
  rw [takes_head_iff_class, takes_tail_iff_class]
  rintro ⟨hhead | hdebounce, htail⟩
  · exact FrameClass.noConfusion (hhead.symm.trans htail)
  · exact FrameClass.noConfusion (hdebounce.symm.trans htail)

/-- Settles O16: class and finger count give the row, and the row's pattern tests just those. -/
theorem rowsFollowMaskAndMatch : Obligations.RowsFollowMaskAndMatch := by
  unfold Obligations.RowsFollowMaskAndMatch
  intro w
  obtain ⟨hd, h0, h1, h2, h3, t0, t1, t2, t3, hu⟩ := decodeV3_row_iff w
  exact ⟨hd.trans (takes_debounce_iff_class w).symm,
    h0.trans (takes_headRow_iff_class w 0 (by decide)).symm, h1.trans (takes_headRow_iff_class w 1 (by decide)).symm,
    h2.trans (takes_headRow_iff_class w 2 (by decide)).symm, h3.trans (takes_headRow3_iff_class w).symm,
    t0.trans (takes_tailRow_iff_class w 0).symm, t1.trans (takes_tailRow_iff_class w 1).symm,
    t2.trans (takes_tailRow_iff_class w 2).symm, t3.trans (takes_tailRow_iff_class w 3).symm,
    hu.trans (takes_none_iff_class w).symm⟩

/-- Settles O17: each field is a part of one or two bytes of the frame. -/
theorem operandFieldsOfFrame : Obligations.OperandFieldsOfFrame := by
  unfold Obligations.OperandFieldsOfFrame
  intro b0 b1 b2 b3 b4 b5
  have hb0 := b0.isLt
  simp only [fingersOf, buttonsOf, xOf, yrawOf, frameByte_frameWord, Nat.reduceLT, List.getElem_cons_zero,
    List.getElem_cons_succ, coordinate_toNat, and_true]
  constructor
  · rw [BitVec.extractLsb'_toNat, Nat.shiftRight_eq_div_pow]
    omega
  · exact (Nat.and_two_pow_sub_one_eq_mod _ 2).symm

/-- Settles O20: the words are those of the six bytes, and neither can be the Debounce word. -/
theorem encoderWritesFrameBytes : Obligations.EncoderWritesFrameBytes := by
  unfold Obligations.EncoderWritesFrameBytes
  refine ⟨fun n r l x yraw => ⟨?_, ?_, ?_, ?_⟩, fun m x yraw y hy => ?_⟩
  · rw [headWord_eq_frameWord n _ (coordinate_bytes_toNat x) (coordinate_bytes_toNat yraw), frameBytes_frameWord,
      (byte0_eq n r l).1]
  · rw [tailWord_eq_frameWord n _ (coordinate_bytes_toNat x) (coordinate_bytes_toNat yraw), frameBytes_frameWord,
      (byte0_eq n r l).2]
  · exact headWord_ne_debounceWord n _ rfl
  · exact tailWord_ne_debounceWord n _
  · rw [decodeSample_yInt, hy]
    omega

/-- Settles O23: a port row is the offered transaction's, and a frame row runs inside the BYTE_IN of its last byte. -/
theorem placedWordIsRunNext : Obligations.PlacedWordIsRunNext := by
  unfold Obligations.PlacedWordIsRunNext
  intro s nbits w i h
  rcases decodeTableWord_cases h with ⟨rfl, rfl⟩ | ⟨hn, rfl⟩ | ⟨rfl, rfl⟩ | ⟨rfl, rfl⟩
  · refine ⟨_, step_offerFirst s (.port8 (BitVec.ofNat 8 w)) _ rfl, ?_⟩
    exact ⟨rfl, rfl, ⟨rfl, rfl, rfl⟩, rfl, rfl, rfl, rfl, rfl, fun _ => rfl, by simp⟩
  · have hplace : s.withFetchWord nbits w = offerFirst (.portCfg (BitVec.ofNat 37 w)) s := by
      rcases hn with rfl | rfl <;> rfl
    refine ⟨_, hplace ▸ step_offerFirst s (.portCfg (BitVec.ofNat 37 w)) _ rfl, ?_⟩
    exact ⟨rfl, rfl, ⟨rfl, rfl, rfl⟩, rfl, rfl, rfl, rfl, rfl, fun _ => rfl, by omega⟩
  · have hstep := step_offerLastByte (shortFrameByte (BitVec.ofNat 32 w) 3) (placeShortFrame (BitVec.ofNat 32 w) s)
      rfl rfl
    refine ⟨_, hstep.trans (congrArg (exec · _) (decodeFrame_placeShortFrame (BitVec.ofNat 32 w) s)), ?_⟩
    exact ⟨rfl, rfl, ⟨rfl, rfl, rfl⟩, rfl, rfl, rfl, rfl, rfl, by simp, fun _ => ⟨rfl, rfl, rfl⟩⟩
  · have hstep := step_offerLastByte (frameByte (BitVec.ofNat 48 w) 5) (placeFrame (BitVec.ofNat 48 w) s) rfl rfl
    refine ⟨_, hstep.trans (congrArg (exec · _) (decodeFrame_placeFrame (BitVec.ofNat 48 w) s)), ?_⟩
    exact ⟨rfl, rfl, ⟨rfl, rfl, rfl⟩, rfl, rfl, rfl, rfl, rfl, by simp, fun _ => ⟨rfl, rfl, rfl⟩⟩

/-- Settles O31: two frames of one row enter it alike but for the diagnostics, which the decoder does not read. -/
theorem uninterpretedBitsHaveNoEffect : Obligations.UninterpretedBitsHaveNoEffect := by
  unfold Obligations.UninterpretedBitsHaveNoEffect
  simp only [List.forall_mem_cons, List.not_mem_nil, false_imp_iff, implies_true, and_true]
  constructor
  · intro f g s hb hx hy
    refine ⟨⟨_, _, rfl, rfl, ?_⟩, ⟨_, _, rfl, rfl, ?_⟩, ⟨_, _, rfl, rfl, ?_⟩, ⟨_, _, rfl, rfl, rfl⟩⟩
    · rw [hb]
      exact decodeF0_sameButDiagnostics (diagnosticsOf (headWord 0 g)) rfl g.buttons
    · rw [hb, hx, hy]
      exact decodeF1_sameButDiagnostics (diagnosticsOf (headWord 1 g)) rfl g.x g.yraw g.buttons
    · rw [hx, hy]
      exact decodeF2_sameButDiagnostics (diagnosticsOf (headWord 2 g)) rfl .s0 g.x g.yraw
  · intro f g s hb hx hy
    refine ⟨⟨_, _, rfl, rfl, ?_⟩, ⟨_, _, rfl, rfl, ?_⟩, ⟨_, _, rfl, rfl, ?_⟩, ⟨_, _, rfl, rfl, rfl⟩⟩
    · rw [hb]
      exact decodeF0_sameButDiagnostics (diagnosticsOf (tailWord 0 g)) rfl g.buttons
    · rw [hb, hx, hy]
      exact decodeF1_sameButDiagnostics (diagnosticsOf (tailWord 1 g)) rfl g.x g.yraw g.buttons
    · rw [hx, hy]
      exact decodeF2_sameButDiagnostics (diagnosticsOf (tailWord 2 g)) rfl .s1 g.x g.yraw

/-- Settles O5: a port transaction decodes to a port row, which every word makes well formed. -/
theorem stepRunsOfferedTransaction : Obligations.StepRunsOfferedTransaction := by
  unfold Obligations.StepRunsOfferedTransaction
  refine ⟨fun s tr rest i hs hp hd => ⟨?_, step_port_intact s tr rest i hs hd hp⟩, fun v => rfl, ?_⟩
  · cases tr with
    | port8 v => cases hd; rfl
    | portCfg c => cases hd; rfl
    | reset => cases hd
    | powerTransition => cases hd
  · exact fun fw ymax o => congrArg some (decodeConfig_configWord fw ymax o)

/-- Settles O21: the decoder's arms of the right length are the only ones that answer otherwise. -/
theorem decoderRefusesOtherLengths : Obligations.DecoderRefusesOtherLengths := by
  unfold Obligations.DecoderRefusesOtherLengths
  exact decodeBytes_wrongLength

end Sys2Proof.Machine
end

section
/-!
SUPPORT. The proofs of family 40_frame_assembly.md: a BYTE_IN without a profile, inside a frame and at its end,
and which BYTE_INs raise an event.
-/

namespace Sys2Proof.Machine

open Sys2Proof.Spec

/-! ## Bytes inside a frame (40_frame_assembly.md R71, R72) -/

theorem completesFrame_eq_false_of_lt {s : State} (h : s.asm.cnt.val + 1 < s.profile.pktsize.toNat) :
    completesFrame s = false := by
  rw [Bool.eq_false_iff, Ne, completesFrame_iff]
  omega

/-- Bytes that stay inside the frame write the assembler and the event port at most; the first of them takes the strobe
down and no later one raises it. -/
theorem execAll_byteIn_partial (bs : List Byte) (s : State) (hv : s.profile.valid = true)
    (hlen : s.asm.cnt.val + bs.length < s.profile.pktsize.toNat) :
    ∃ u, execAll (bs.map .byteIn) s = .next u ∧ u.asm.cnt.val = s.asm.cnt.val + bs.length ∧
      u = { s with asm := u.asm, event := u.event } ∧ (bs ≠ [] ∨ s.event.valid = false → u.event.valid = false) := by
  induction bs generalizing s with
  | nil => exact ⟨s, rfl, rfl, rfl, fun h => h.resolve_left (absurd rfl)⟩
  | cons v bs ih =>
    rw [List.length_cons] at hlen
    have hc : completesFrame s = false := completesFrame_eq_false_of_lt (by omega)
    have hcnt : (s.asm.cnt + 1).val = s.asm.cnt.val + 1 := cnt_succ_val _ s.profile.pktsize (by omega)
    obtain ⟨u, hrun, hucnt, hu, hevent⟩ := ih
      { s with asm := ⟨bufferWith v s, s.asm.cnt + 1⟩, event := ⟨false, s.event.dx, s.event.dy, s.event.buttons⟩ } hv
      (by dsimp only; omega)
    refine ⟨u, (execAll_cons _ (exec_byteIn_partial v s hv hc)).trans hrun, ?_, hu, fun _ => hevent (.inr rfl)⟩
    rw [hucnt, hcnt, List.length_cons]
    omega

/-! ## Which frames raise an event (42_position_decoder.md R105, R106, R113) -/

/-- The event port from `e` to `e'`: the strobe is up under the condition, and else nothing is written. -/
def EventRaisedIf (p : Prop) (e e' : EventPort) : Prop := (p → e'.valid = true) ∧ (¬ p → e' = e)

theorem EventRaisedIf.of_pos {p : Prop} {e e' : EventPort} (hp : p) (h : e'.valid = true) : EventRaisedIf p e e' :=
  ⟨fun _ => h, fun hn => absurd hp hn⟩

theorem EventRaisedIf.of_neg {p : Prop} {e e' : EventPort} (hn : ¬ p) (h : e' = e) : EventRaisedIf p e e' :=
  ⟨fun hp => absurd hp hn, fun _ => h⟩

/-- A generation-3 frame, completed in `s`, that is a release, or a motion: one finger with a valid sample and a valid
last point. -/
def ReleaseOrMotion (w : FrameWord) (s : State) : Prop :=
  Decoded w ∧ (fingersOf w = 0 ∨
    (fingersOf w = 1 ∧ s.gesture.lastValid = true ∧ SampleValid s (xOf w) (yrawOf w)))

/-- The BYTE_IN of `v` completes a release or a motion. -/
def CompletesReleaseOrMotion (v : Byte) (s : State) : Prop :=
  s.profile.valid = true ∧ completesFrame s = true ∧ s.profile.gen = .g3 ∧ ReleaseOrMotion (wordIn (bufferWith v s)) s

theorem releaseOrMotion_of_no_finger {w : FrameWord} {s : State} (hd : Decoded w) (hn : fingersOf w = 0) :
    ReleaseOrMotion w s := ⟨hd, .inl hn⟩

theorem releaseOrMotion_one_finger_iff {w : FrameWord} {s : State} (hd : Decoded w) (hn : fingersOf w = 1) :
    ReleaseOrMotion w s ↔ s.gesture.lastValid = true ∧ SampleValid s (xOf w) (yrawOf w) := by
  simp [ReleaseOrMotion, hd, hn]

theorem not_releaseOrMotion_of_dropped {w : FrameWord} {s : State} (hd : ¬ Decoded w) : ¬ ReleaseOrMotion w s :=
  fun hm => hd hm.1

theorem not_releaseOrMotion_of_fingers {w : FrameWord} {s : State} (hn : fingersOf w = 2 ∨ fingersOf w = 3) :
    ¬ ReleaseOrMotion w s := by
  rcases hn with hn | hn <;> simp [ReleaseOrMotion, hn]

theorem decodeF0_event_valid (b : BitVec 2) (s : State) : (decodeF0 b s).event.valid = true := by
  rw [decodeF0_eq]

/-- A one-finger frame raises the strobe when it has both a last point to move from and a valid sample. -/
theorem decodeF1_event (x yraw : BitVec 12) (b : BitVec 2) (s : State) :
    EventRaisedIf (s.gesture.lastValid = true ∧ SampleValid s x yraw) s.event (decodeF1 x yraw b s).event := by
  have hiff : SampleValid s x yraw ↔ (decodeSample s.profile.ymax x yraw).isValid = true :=
    (decodeSample_isValid_iff s.profile.ymax x yraw).symm
  rw [hiff]
  cases hsample : (decodeSample s.profile.ymax x yraw).isValid with
  | false => exact .of_neg (by simp) (by rw [decodeF1_invalid x yraw b s hsample])
  | true =>
    have hevent : (decodeF1 x yraw b s).event = (emitMotion (decodeSample s.profile.ymax x yraw) b s).event := by
      rw [decodeF1_valid x yraw b s hsample]
      simp
    rw [hevent]
    cases hlast : s.gesture.lastValid with
    | true => exact .of_pos ⟨rfl, rfl⟩ (by rw [emitMotion_event_some _ b s hlast])
    | false => exact .of_neg (by simp) (emitMotion_event_none _ b s hlast)

/-- The row of a generation-3 word, by its class and finger count. -/
theorem decodeV3_event {w : FrameWord} {s t : State} (h : exec (decodeV3 w) s = .next t) :
    EventRaisedIf (ReleaseOrMotion w s) s.event t.event := by
  rcases decodeV3_cases w with ⟨hc, hd⟩ | ⟨hc, hd⟩ | ⟨hc, hn, hd⟩ | ⟨hc, hn, hd⟩ | ⟨hc, hn, hd⟩ | ⟨hc, hn, hd⟩ |
    ⟨hc, hn, hd⟩ | ⟨hc, hn, hd⟩ | ⟨hc, hn, hd⟩ | ⟨hc, hn, hd⟩ <;> rw [hd] at h <;> cases h
  · exact .of_neg (not_releaseOrMotion_of_dropped (by simp [hc])) rfl
  · exact .of_neg (not_releaseOrMotion_of_dropped (by simp [hc])) rfl
  · exact .of_pos (releaseOrMotion_of_no_finger (.inl hc) hn) (decodeF0_event_valid _ _)
  · rw [releaseOrMotion_one_finger_iff (.inl hc) hn]
    exact decodeF1_event (xOf w) (yrawOf w) (buttonsOf w) (enterHead 1 (headFields w) s)
  · exact .of_neg (not_releaseOrMotion_of_fingers (.inl hn)) (decodeF2_event _ _ _ _)
  · exact .of_neg (not_releaseOrMotion_of_fingers (.inr hn)) rfl
  · exact .of_pos (releaseOrMotion_of_no_finger (.inr hc) hn) (decodeF0_event_valid _ _)
  · rw [releaseOrMotion_one_finger_iff (.inr hc) hn]
    exact decodeF1_event (xOf w) (yrawOf w) (buttonsOf w) (enterTail 1 (tailFields w) s)
  · exact .of_neg (not_releaseOrMotion_of_fingers (.inl hn)) (decodeF2_event _ _ _ _)
  · exact .of_neg (not_releaseOrMotion_of_fingers (.inr hn)) rfl

/-- The row of a completed frame: only generation 3 raises an event (41_classifier.md R88, R89, R91). -/
theorem decodeFrame_event {g : Generation} {fb : Vector Byte 6} {s t : State}
    (h : exec (decodeFrame g fb) s = .next t) :
    EventRaisedIf (g = .g3 ∧ ReleaseOrMotion (wordIn fb) s) s.event t.event := by
  cases g with
  | g1 => cases h; exact .of_neg (by simp) rfl
  | g2 => cases h; exact .of_neg (by simp) rfl
  | g3 =>
    rw [eq_self, true_and]
    exact decodeV3_event h
  | g4 => cases h; exact .of_neg (by simp) rfl

/-- BYTE_IN takes the strobe down and raises it only for the frame it completes (40_frame_assembly.md R70, R74). -/
theorem byteIn_event {v : Byte} {s t : State} (h : exec (.byteIn v) s = .next t) :
    EventRaisedIf (CompletesReleaseOrMotion v s) (clearStrobe s).event t.event := by
  rcases byteIn_cases h with ⟨hv, rfl⟩ | ⟨-, hc, rfl⟩ | ⟨hv, hc, hrow⟩
  · exact .of_neg (by simp [CompletesReleaseOrMotion, hv]) rfl
  · exact .of_neg (by simp [CompletesReleaseOrMotion, hc]) rfl
  · simp only [CompletesReleaseOrMotion, hv, hc, true_and]
    exact decodeFrame_event hrow

/-! ## The statements -/

/-- Settles O11: the completing byte's row leaves the assembler as the byte left it, and fewer bytes than a frame has
stay inside the next one. -/
theorem completedFrameIsConsumedOnce : Obligations.CompletedFrameIsConsumedOnce := by
  unfold Obligations.CompletedFrameIsConsumedOnce
  intro v s hv hlast
  have hc : completesFrame s = true := (completesFrame_iff s).2 hlast
  obtain ⟨t, ht⟩ := exec_next (.byteIn v) s
  have hprofile : t.profile = s.profile := byteIn_keeps_profile ht
  have hasm : t.asm = ⟨bufferWith v s, 0⟩ := (byteIn_asm ht hv).trans (congrArg State.asm (storeByte_complete v s hc))
  refine ⟨exec_byteIn_complete v s hv hc, t, ht, hasm, hprofile, fun bs hlen => ?_⟩
  have hzero : t.asm.cnt.val = 0 := by rw [hasm]; rfl
  have hinside : t.asm.cnt.val + bs.length < t.profile.pktsize.toNat := by rwa [hzero, Nat.zero_add, hprofile]
  obtain ⟨u, hrun, hcnt, hu, hevent⟩ := execAll_byteIn_partial bs t (hprofile ▸ hv) hinside
  refine ⟨u, hrun, by rw [hcnt, hzero, Nat.zero_add], ?_⟩
  rw [hu]
  exact ⟨rfl, ⟨rfl, rfl, rfl⟩, rfl, rfl, fun hbs => hevent (.inl hbs)⟩

/-- Settles O38, by the outcomes of BYTE_IN and, at the end of a frame, the frame's row. -/
theorem eventExactlyForMotionOrRelease : Obligations.EventExactlyForMotionOrRelease := by
  unfold Obligations.EventExactlyForMotionOrRelease
  intro v s t h
  rw [← completesFrame_iff]
  obtain ⟨hraised, hkept⟩ := byteIn_event h
  by_cases hm : CompletesReleaseOrMotion v s
  · exact ⟨iff_of_true (hraised hm) hm, fun hf => absurd (hf.symm.trans (hraised hm)) Bool.false_ne_true⟩
  · exact ⟨iff_of_false (by simp [hkept hm]) hm, fun _ => hkept hm⟩

/-- Settles O7: the strobe falls and nothing else is written. -/
theorem bytesWithoutProfileDiscarded : Obligations.BytesWithoutProfileDiscarded := by
  unfold Obligations.BytesWithoutProfileDiscarded
  exact execByteIn_discarded

/-- Settles O8: the byte is stored, and CNT + 1 does not wrap inside a frame. -/
theorem partialFrameStoresOneByte : Obligations.PartialFrameStoresOneByte := by
  unfold Obligations.PartialFrameStoresOneByte
  intro v s hv hlt
  exact ⟨_, exec_byteIn_partial v s hv (completesFrame_eq_false_of_lt hlt), cnt_succ_val _ _ hlt, rfl, rfl⟩

/-- Settles O9: CNT + 1 = CFG_PKTSIZE is the test by which BYTE_IN processes the frame. -/
theorem byteInRunsCompletedFrame : Obligations.ByteInRunsCompletedFrame := by
  unfold Obligations.ByteInRunsCompletedFrame
  intro v s hv hlast
  exact exec_byteIn_complete v s hv ((completesFrame_iff s).2 hlast)

end Sys2Proof.Machine
end

section
/-!
SUPPORT. The proofs of family 41_classifier.md: the class of a frame, the verdict a completed frame leaves, and the frames
that leave nothing else.
-/

namespace Sys2Proof.Machine

open Sys2Proof.Spec

/-! ## Rows that end at the classifier (41_classifier.md R81, R84, R88, R89, R91) -/

/-- The entry of a frame, which is all such a row does, writes the verdict only. -/
theorem onlyVerdict_beginFrame (v : Verdict) (s : State) : OnlyVerdict s (beginFrame v s) v.code := ⟨v, rfl, rfl⟩

/-- Under another generation than 3 a completed frame enters and ends there (41_classifier.md R88, R89, R91). -/
theorem exec_decodeFrame_of_ne_g3 {g : Generation} (hg : g ≠ .g3) (fb : Vector Byte 6) (s : State) :
    ∃ v, exec (decodeFrame g fb) s = .next (beginFrame v s) := by
  cases g with
  | g1 => exact ⟨_, rfl⟩
  | g2 => exact ⟨_, rfl⟩
  | g3 => exact absurd rfl hg
  | g4 => exact ⟨_, rfl⟩

/-! ## The parity check of generation 1 (41_classifier.md R86, R87, R90) -/

theorem parityPos_older {fw : Firmware} (h : fw.toNat < 0x020000) : parityPos fw = Config.parityLayouts.older :=
  if_pos h

theorem parityPos_newer {fw : Firmware} (h : ¬ fw.toNat < 0x020000) : parityPos fw = Config.parityLayouts.newer :=
  if_neg h

/-- The parity test on the four bytes (41_classifier.md R86). -/
theorem parityAgrees_iff (q : ParityPos) (b0 b1 b2 b3 : Byte) :
    parityAgrees q (shortFrameWord b0 b1 b2 b3) = true ↔
      b0.getLsbD q.q1 = parityTable b1 ∧ b0.getLsbD q.q2 = parityTable b2 ∧ b0.getLsbD q.q3 = parityTable b3 := by
  simp [parityAgrees, shortFrameByte_shortFrameWord, and_assoc]

/-- CheckV1 as a code (41_classifier.md R86, R90, R92). -/
theorem checkV1_code (p : Profile) (w : ShortFrameWord) :
    (checkV1 p w).code = if p.parityEn = false then 5 else if parityAgrees (parityPos p.fw) w = true then 5 else 6 := by
  unfold checkV1
  cases p.parityEn with
  | false => rfl
  | true => cases parityAgrees (parityPos p.fw) w <;> rfl

/-- CheckV1 passes a frame or fails it (41_classifier.md R86). -/
theorem checkV1_pass_or_fail (p : Profile) (w : ShortFrameWord) :
    checkV1 p w = .parityPass ∨ checkV1 p w = .parityFail := by
  unfold checkV1
  split_ifs <;> simp

/-! ## The verdict of a completed frame (41_classifier.md R92) -/

/-- The verdict of a class of generation 3 (41_classifier.md R81 to R84). -/
def verdictOfClass : FrameClass → Verdict
  | .debounce => .debounce
  | .head => .head
  | .tail => .tail
  | .unknown => .unknown

/-- The verdict of the frame in a frame buffer, by the generation in force (40_frame_assembly.md R73). -/
def verdictOfFrame (p : Profile) (fb : Vector Byte 6) : Verdict :=
  match p.gen with
  | .g1 => checkV1 p (shortWordIn fb)
  | .g2 => .unsupported
  | .g3 => verdictOfClass (classifyV3 (wordIn fb))
  | .g4 => .unsupported

theorem verdictOfFrame_g3 {p : Profile} (h : p.gen = .g3) (fb : Vector Byte 6) :
    verdictOfFrame p fb = verdictOfClass (classifyV3 (wordIn fb)) := by
  rw [verdictOfFrame, h]

/-- Every row of generation 3 writes the verdict of its word's class, and nothing its decoder does changes it
(41_classifier.md R81 to R84). -/
theorem decodeV3_verdict {w : FrameWord} {s t : State} (h : exec (decodeV3 w) s = .next t) :
    t.status.verdict = verdictOfClass (classifyV3 w) := by
  rcases decodeV3_cases w with ⟨hc, hd⟩ | ⟨hc, hd⟩ | ⟨hc, -, hd⟩ | ⟨hc, -, hd⟩ | ⟨hc, -, hd⟩ | ⟨hc, -, hd⟩ |
    ⟨hc, -, hd⟩ | ⟨hc, -, hd⟩ | ⟨hc, -, hd⟩ | ⟨hc, -, hd⟩ <;> rw [hd] at h <;> cases h <;>
    simp [hc, verdictOfClass]

theorem decodeFrame_verdict {fb : Vector Byte 6} {s t : State} (h : exec (decodeFrame s.profile.gen fb) s = .next t) :
    t.status.verdict = verdictOfFrame s.profile fb := by
  unfold verdictOfFrame
  cases hg : s.profile.gen <;> rw [hg] at h
  case g3 => exact decodeV3_verdict h
  all_goals cases h; rfl

/-- A byte that completes a frame leaves the frame's verdict (41_classifier.md R92). -/
theorem byteIn_verdict_complete {v : Byte} {s t : State} (h : exec (.byteIn v) s = .next t)
    (hv : s.profile.valid = true) (hlast : s.asm.cnt.val + 1 = s.profile.pktsize.toNat) :
    t.status.verdict = verdictOfFrame s.profile (bufferWith v s) := by
  have hrow := execByteIn_complete v s hv ((completesFrame_iff s).2 hlast)
  exact decodeFrame_verdict (s := storeByte v (clearStrobe s)) (hrow.symm.trans h)

/-! ## The statements -/

/-- Settles O34: the completing byte runs the frame's row, and no other byte writes VERDICT. -/
theorem verdictAtFrameCompletion : Obligations.VerdictAtFrameCompletion := by
  unfold Obligations.VerdictAtFrameCompletion
  refine fun v s t h => ⟨fun hn => ?_, fun ⟨hv, hlast⟩ => ?_⟩
  · rw [byteIn_incomplete v s t h hn]
  · rw [byteIn_verdict_complete h hv hlast, verdictOfFrame]
    cases s.profile.gen with
    | g1 => rcases checkV1_pass_or_fail s.profile (shortWordIn (bufferWith v s)) with hw | hw <;> rw [hw] <;> rfl
    | g2 => rfl
    | g3 => cases classifyV3 (wordIn (bufferWith v s)) <;> rfl
    | g4 => rfl

/-- Settles O35: under generation 3 the verdict is a function of the completed frame. -/
theorem verdictDependsOnFrameAlone : Obligations.VerdictDependsOnFrameAlone := by
  unfold Obligations.VerdictDependsOnFrameAlone
  intro v v' s s' t t' h h' hv hv' hg hg' hlast hlast' hframe
  calc t.status.verdict
    _ = verdictOfClass (classifyV3 (wordIn (bufferWith v s))) :=
      (byteIn_verdict_complete h hv hlast).trans (verdictOfFrame_g3 hg _)
    _ = verdictOfClass (classifyV3 (wordIn (bufferWith v' s'))) := by rw [hframe]
    _ = t'.status.verdict := ((byteIn_verdict_complete h' hv' hlast').trans (verdictOfFrame_g3 hg' _)).symm

/-- Settles O45: the strobe falls, the byte is stored at most, and a completed frame writes its verdict only. -/
theorem otherGenerationsDecodeNothing : Obligations.OtherGenerationsDecodeNothing := by
  unfold Obligations.OtherGenerationsDecodeNothing
  intro v s hg
  obtain ⟨t, ht⟩ := exec_next (.byteIn v) s
  refine ⟨t, ht, ?_⟩
  rcases byteIn_cases ht with ⟨-, rfl⟩ | ⟨-, -, rfl⟩ | ⟨-, -, hrow⟩
  · exact ⟨⟨rfl, rfl, rfl⟩, rfl, rfl⟩
  · exact ⟨⟨rfl, rfl, rfl⟩, rfl, rfl⟩
  · obtain ⟨verdict, hentry⟩ := exec_decodeFrame_of_ne_g3 hg (bufferWith v s) (storeByte v (clearStrobe s))
    cases hentry.symm.trans hrow
    exact ⟨⟨rfl, rfl, rfl⟩, rfl, rfl⟩

/-- Settles O14: byte i of a word made of six bytes is the i-th of them, so the byte tests are those of the pseudocode. -/
theorem classifierTestsBytes : Obligations.ClassifierTestsBytes := by
  unfold Obligations.ClassifierTestsBytes
  intro b0 b1 b2 b3 b4 b5
  simp [classifyV3, frameByte_frameWord]

/-- Settles O28: both rows are the entry of their frame. -/
theorem droppedFrameEffect : Obligations.DroppedFrameEffect := by
  unfold Obligations.DroppedFrameEffect
  exact ⟨fun s => ⟨_, rfl, onlyVerdict_beginFrame .debounce s⟩, fun _ s => ⟨_, rfl, onlyVerdict_beginFrame .unknown s⟩⟩

/-- Settles O29: the row is the entry of its frame with CheckV1's verdict, whose test reads the four bytes. -/
theorem generationOneParity : Obligations.GenerationOneParity := by
  unfold Obligations.GenerationOneParity
  intro b0 b1 b2 b3 s
  refine ⟨_, rfl, ?_⟩
  simp only [← parityAgrees_iff, ← checkV1_code]
  exact onlyVerdict_beginFrame _ s

/-- Settles O30: both rows are the entry of their frame. -/
theorem unsupportedGenerationEffect : Obligations.UnsupportedGenerationEffect := by
  unfold Obligations.UnsupportedGenerationEffect
  exact ⟨fun _ s => ⟨_, rfl, onlyVerdict_beginFrame .unsupported s⟩,
    fun _ s => ⟨_, rfl, onlyVerdict_beginFrame .unsupported s⟩⟩

/-- Settles O49: the bound of V1_PARITY_POS chooses between two layouts that differ. -/
theorem parityLayoutsDiffer : Obligations.ParityLayoutsDiffer := by
  unfold Obligations.ParityLayoutsDiffer
  refine ⟨fun fw fw' hlow hhigh => ?_, fun fw fw' hside => ?_⟩
  · rw [parityPos_older hlow, parityPos_newer (Nat.not_lt.mpr hhigh)]
    exact Config.parityLayouts.differ
  · by_cases hlow : fw.toNat < 0x020000
    · rw [parityPos_older hlow, parityPos_older (hside.mp hlow)]
    · rw [parityPos_newer hlow, parityPos_newer (mt hside.mpr hlow)]

end Sys2Proof.Machine
end

section
/-!
SUPPORT. The proofs of family 42_position_decoder.md: what a Head or Tail frame of each finger count writes, what a
completed frame leaves in MALFORMED and LAST_COUNT, and the ranges of decoded values and of the event's deltas.
-/

namespace Sys2Proof.Machine

open Sys2Proof.Spec

/-! ## Decoded values and the 16-bit event port (42_position_decoder.md R100 to R102) -/

theorem sampleValid_iff (s : State) (x yraw : BitVec 12) :
    SampleValid s x yraw ↔ (decodeSample s.profile.ymax x yraw).isValid = true :=
  (decodeSample_isValid_iff s.profile.ymax x yraw).symm

theorem decodeSample_yInt_bounds (ymax x yraw : BitVec 12) :
    (ymax.toNat : Int) - 4095 ≤ (decodeSample ymax x yraw).yInt ∧
      (decodeSample ymax x yraw).yInt ≤ (ymax.toNat : Int) := by
  have hyraw := yraw.isLt
  rw [decodeSample_yInt]
  omega

/-- The event port holds exactly every integer that 16 bits of two's complement can (42_position_decoder.md R102). -/
theorem eventPort_exact {z : Int} (h : z.natAbs < 2 ^ 15) : (BitVec.ofInt 16 z).toInt = z :=
  BitVec.toInt_ofInt_eq_self (by decide) (by omega) (by omega)

/-- Deltas of valid samples (42_position_decoder.md R102): x is 1 to 4095, and y is at most 4095 below
its Y maximum. -/
theorem validSamples_delta_bounds {ymax x yraw ymax' x' yraw' : BitVec 12}
    (h : (decodeSample ymax x yraw).isValid = true) (h' : (decodeSample ymax' x' yraw').isValid = true) :
    ((decodeSample ymax x yraw).xInt - (decodeSample ymax' x' yraw').xInt).natAbs ≤ 4094 ∧
    ((decodeSample ymax x yraw).yInt - (decodeSample ymax' x' yraw').yInt).natAbs ≤ 8190 ∧
    (ymax = ymax' → ((decodeSample ymax x yraw).yInt - (decodeSample ymax' x' yraw').yInt).natAbs ≤ 4095) := by
  obtain ⟨hx1, hx2⟩ := (decodeSample_decodedUnder h).xInt_bounds
  obtain ⟨hx1', hx2'⟩ := (decodeSample_decodedUnder h').xInt_bounds
  obtain ⟨hy1, hy2⟩ := decodeSample_yInt_bounds ymax x yraw
  obtain ⟨hy1', hy2'⟩ := decodeSample_yInt_bounds ymax' x' yraw'
  have hymax := ymax.isLt
  have hymax' := ymax'.isLt
  refine ⟨by omega, by omega, ?_⟩
  rintro rfl
  omega

/-- The deltas of a one-finger frame fit the event port whatever point LAST_X and LAST_Y hold. -/
theorem motion_deltas_fit (s : State) (x yraw lastX : BitVec 12) (lastY : BitVec 13) :
    ((x.toNat : Int) - (lastX.toNat : Int)).natAbs < 2 ^ 15 ∧ (invertedY s yraw - lastY.toInt).natAbs < 2 ^ 15 := by
  have hx := x.isLt
  have hlastX := lastX.isLt
  have hymax := s.profile.ymax.isLt
  have hyraw := yraw.isLt
  have hlo := BitVec.le_toInt lastY
  have hhi := BitVec.toInt_lt (x := lastY)
  rw [invertedY]
  omega

/-! ## Zero fingers (42_position_decoder.md R105, 43_tap_gesture.md R134) -/

theorem allowsTap_iff (t : FingerTrack) : t.allowsTap = true ↔ t.startValid = false ∨ t.tapInRange = true := by
  simp [FingerTrack.allowsTap]

theorem tapEligible_iff (s : State) :
    tapEligible s = true ↔
      (s.gesture.lastCount = 1 ∨ s.gesture.lastCount = 2) ∧ s.gesture.tapToClick = true ∧
      (s.slot0.startValid = false ∨ s.slot0.tapInRange = true) ∧
      (s.slot1.startValid = false ∨ s.slot1.tapInRange = true) := by
  simp only [tapEligible, Bool.and_eq_true, Bool.or_eq_true, beq_iff_eq, allowsTap_iff, and_assoc]

theorem releaseTapBit_eq_tapBit (s : State) : releaseTapBit s = tapBit s := by
  simp only [releaseTapBit, tapBit, tapEligible_iff]

theorem decodeF0_released (v : Verdict) (w : FrameWord) (buttons : BitVec 2) (s : State) :
    Released s (decodeF0 buttons (writeDiagnostics w (beginFrame v s))) v w buttons := by
  have hbit : releaseTapBit (writeDiagnostics w (beginFrame v s)) = tapBit s := releaseTapBit_eq_tapBit s
  rw [decodeF0_eq, hbit]
  exact ⟨⟨rfl, rfl, rfl, rfl⟩, rfl, rfl, rfl, rfl, rfl, rfl⟩

/-! ## One slot and its tap tracking (42_position_decoder.md R106 to R108, 43_tap_gesture.md R131, R132) -/

/-- The comparator's test against the start point of a slot. -/
theorem exceedsTapRadius_start_iff (t : FingerTrack) (p : Point) :
    exceedsTapRadius ⟨t.startX, t.startY⟩ p = true ↔
      32 < (p.xInt - (t.startX.toNat : Int)).natAbs ∨ 32 < (p.yInt - t.startY.toInt).natAbs :=
  exceedsTapRadius_iff _ p

/-- A valid sample moves its slot, then latches the start point or compares against it. -/
theorem tapTrack_setPos_tracked (k : SlotId) (p : Point) (s : State) :
    Tracked (s.slot k) ((tapTrack k p (setPos k p s)).slot k) s.gesture.tapToClick
      (tapTrack k p (setPos k p s)).gesture.tapToClick p.xInt p.yInt := by
  have hx : (p.x.toNat : Int) = p.xInt := rfl
  have hy : p.y.toInt = p.yInt := rfl
  cases hstart : (s.slot k).startValid with
  | false =>
    rw [tapTrack_first k p _ (by simpa using hstart)]
    simp [Tracked, hstart, hx, hy]
  | true =>
    rw [tapTrack_later k p _ (by simpa using hstart)]
    by_cases hexc : exceedsTapRadius ⟨(s.slot k).startX, (s.slot k).startY⟩ p = true
    · have hout := (exceedsTapRadius_start_iff _ p).1 hexc
      simp [Tracked, hstart, hexc, hx, hy, hout]
    · have hin := mt (exceedsTapRadius_start_iff _ p).2 hexc
      simp [Tracked, hstart, hexc, hx, hy, hin]

/-! ## One finger (42_position_decoder.md R106) -/

theorem decodeF1_slot1 (x yraw : BitVec 12) (b : BitVec 2) (s : State) : (decodeF1 x yraw b s).slot1 = s.slot1 := by
  cases hvalid : (decodeSample s.profile.ymax x yraw).isValid with
  | false => rw [decodeF1_invalid x yraw b s hvalid]
  | true =>
    rw [decodeF1_valid x yraw b s hvalid]
    exact (tapTrack_slot_ne .s0 .s1 _ _ (by decide)).trans (by simp)

/-- MALFORMED is written for an invalid sample only (42_position_decoder.md R112). -/
theorem decodeF1_malformed (x yraw : BitVec 12) (b : BitVec 2) {s : State} (hs : s.status.malformed = false) :
    (decodeF1 x yraw b s).status.malformed = true ↔ ¬ SampleValid s x yraw := by
  rw [sampleValid_iff]
  cases hvalid : (decodeSample s.profile.ymax x yraw).isValid with
  | false => simp [decodeF1_invalid x yraw b s hvalid]
  | true => simp [decodeF1_valid x yraw b s hvalid, hs]

section
variable {x yraw : BitVec 12} {s : State} (hvalid : (decodeSample s.profile.ymax x yraw).isValid = true)
include hvalid

theorem decodeF1_event_of_isValid (b : BitVec 2) :
    (decodeF1 x yraw b s).event = (emitMotion (decodeSample s.profile.ymax x yraw) b s).event := by
  simp [decodeF1_valid x yraw b s hvalid]

/-- A valid sample becomes the last point (42_position_decoder.md R106). -/
theorem decodeF1_last_of_isValid (b : BitVec 2) :
    (decodeF1 x yraw b s).gesture.lastValid = true ∧ (decodeF1 x yraw b s).gesture.lastX = x ∧
    (decodeF1 x yraw b s).gesture.lastY.toInt = invertedY s yraw := by
  rw [decodeF1_valid_reordered x yraw b s hvalid]
  exact ⟨rfl, rfl, decodeSample_yInt s.profile.ymax x yraw⟩

theorem decodeF1_tracked_of_isValid (b : BitVec 2) :
    Tracked s.slot0 (decodeF1 x yraw b s).slot0 s.gesture.tapToClick (decodeF1 x yraw b s).gesture.tapToClick
      (x.toNat : Int) (invertedY s yraw) := by
  have htracked := tapTrack_setPos_tracked .s0 (decodeSample s.profile.ymax x yraw)
    (setLast (decodeSample s.profile.ymax x yraw) (emitMotion (decodeSample s.profile.ymax x yraw) b s))
  rw [decodeF1_valid x yraw b s hvalid, invertedY, ← decodeSample_yInt _ x]
  simpa using htracked

end

/-- A one-finger frame, from its entry on, at the state before the entry. -/
theorem decodeF1_oneFinger (v : Verdict) (w : FrameWord) (x yraw : BitVec 12) (buttons : BitVec 2) (s : State) :
    OneFinger s (decodeF1 x yraw buttons (writeDiagnostics w (beginFrame v s))) v w x yraw buttons := by
  refine ⟨by simp [Untouched], by simp [diagnosticsOf], by simp [decodeF1_slot1], by simp, rfl,
    fun hn => ?_, fun hv => ?_⟩
  · have hinvalid := Bool.eq_false_iff.2 (mt (sampleValid_iff s x yraw).2 hn)
    rw [decodeF1_invalid x yraw buttons (writeDiagnostics w (beginFrame v s)) hinvalid]
    exact ⟨rfl, rfl, rfl, rfl⟩
  · have hvalid : (decodeSample (writeDiagnostics w (beginFrame v s)).profile.ymax x yraw).isValid = true :=
      (sampleValid_iff s x yraw).1 hv
    obtain ⟨hlastValid, hlastX, hlastY⟩ := decodeF1_last_of_isValid hvalid buttons
    have hmalformed := decodeF1_malformed x yraw buttons (s := writeDiagnostics w (beginFrame v s)) rfl
    refine ⟨Bool.eq_false_iff.2 fun hm => hmalformed.1 hm hv, fun hl => ?_, fun hl => ?_,
      hlastValid, hlastX, hlastY, decodeF1_tracked_of_isValid hvalid buttons⟩
    · rw [decodeF1_event_of_isValid hvalid]
      exact emitMotion_event_none _ _ _ hl
    · rw [decodeF1_event_of_isValid hvalid, emitMotion_event_some _ _ (writeDiagnostics w (beginFrame v s)) hl,
        decodeSample_yInt]
      rfl

/-- A one-finger row, Head or Tail, is a one-finger frame. -/
theorem oneFingerRow_oneFinger {i : Instr} {x yraw : BitVec 12} {buttons : BitVec 2} {s t : State}
    (hrow : OneFingerRow i x yraw buttons) (h : exec i s = .next t) : ∃ v w, OneFinger s t v w x yraw buttons := by
  rcases hrow with ⟨f, rfl, rfl, rfl, rfl⟩ | ⟨f, rfl, rfl, rfl, rfl⟩ <;> cases h
  · exact ⟨_, _, decodeF1_oneFinger .head (headWord 1 f) _ _ _ s⟩
  · exact ⟨_, _, decodeF1_oneFinger .tail (tailWord 1 f) _ _ _ s⟩

/-! ## Two fingers (42_position_decoder.md R107, R108) -/

/-- MALFORMED is written for an invalid sample only (42_position_decoder.md R112). -/
theorem decodeF2_malformed (k : SlotId) (x yraw : BitVec 12) {s : State} (hs : s.status.malformed = false) :
    (decodeF2 k x yraw s).status.malformed = true ↔ ¬ SampleValid s x yraw := by
  rw [sampleValid_iff]
  cases hvalid : (decodeSample s.profile.ymax x yraw).isValid with
  | false => simp [decodeF2_invalid k x yraw s hvalid]
  | true => simp [decodeF2_valid k x yraw s hvalid, hs]

theorem decodeF2_slot_ne {k other : SlotId} (hne : other ≠ k) (x yraw : BitVec 12) (s : State) :
    (decodeF2 k x yraw s).slot other = s.slot other := by
  cases hvalid : (decodeSample s.profile.ymax x yraw).isValid with
  | false =>
    rw [decodeF2_invalid k x yraw s hvalid]
    cases other <;> rfl
  | true =>
    rw [decodeF2_valid k x yraw s hvalid, setLastCount_slot, tapTrack_slot_ne k other _ _ hne, setPos_slot, if_neg hne]

section
variable {x yraw : BitVec 12} {s : State} (hvalid : (decodeSample s.profile.ymax x yraw).isValid = true)
include hvalid

/-- Two fingers leave the last point alone (42_position_decoder.md R107, R108). -/
theorem decodeF2_gesture_of_isValid (k : SlotId) :
    (decodeF2 k x yraw s).gesture =
      { s.gesture with lastCount := 2, tapToClick := (decodeF2 k x yraw s).gesture.tapToClick } := by
  rw [decodeF2_valid k x yraw s hvalid, setLastCount_gesture, tapTrack_gesture, setPos_gesture]

theorem decodeF2_tracked_of_isValid (k : SlotId) :
    Tracked (s.slot k) ((decodeF2 k x yraw s).slot k) s.gesture.tapToClick (decodeF2 k x yraw s).gesture.tapToClick
      (x.toNat : Int) (invertedY s yraw) := by
  have htracked := tapTrack_setPos_tracked k (decodeSample s.profile.ymax x yraw) s
  rw [decodeF2_valid k x yraw s hvalid, invertedY, ← decodeSample_yInt _ x, setLastCount_slot]
  exact htracked

end

/-- A two-finger frame, from its entry on, at the state before the entry. -/
theorem decodeF2_twoFingers {k other : SlotId} (hne : other ≠ k) (v : Verdict) (w : FrameWord) (x yraw : BitVec 12)
    (s : State) : TwoFingers s (decodeF2 k x yraw (writeDiagnostics w (beginFrame v s))) k other v w x yraw := by
  have hslot (j : SlotId) : (writeDiagnostics w (beginFrame v s)).slot j = s.slot j := by cases j <;> rfl
  refine ⟨by simp [Untouched], by simp [diagnosticsOf], by simp, (decodeF2_slot_ne hne _ _ _).trans (hslot other),
    by simp, fun hn => ?_, fun hv => ?_⟩
  · have hinvalid := Bool.eq_false_iff.2 (mt (sampleValid_iff s x yraw).2 hn)
    rw [decodeF2_invalid k x yraw (writeDiagnostics w (beginFrame v s)) hinvalid]
    exact ⟨rfl, hslot k, rfl⟩
  · have hvalid : (decodeSample (writeDiagnostics w (beginFrame v s)).profile.ymax x yraw).isValid = true :=
      (sampleValid_iff s x yraw).1 hv
    have hmalformed := decodeF2_malformed k x yraw (s := writeDiagnostics w (beginFrame v s)) rfl
    refine ⟨Bool.eq_false_iff.2 fun hm => hmalformed.1 hm hv, decodeF2_gesture_of_isValid hvalid k, ?_⟩
    rw [← hslot k]
    exact decodeF2_tracked_of_isValid hvalid k

/-! ## Head and Tail frames of equal operands (42_position_decoder.md R104) -/

/-- The entries of a Head and of a Tail frame differ in the frame's outputs only. -/
theorem enterTail_eq_withFrameOutputs (n : BitVec 2) (f : HeadFields) (g : TailFields) (s : State) :
    enterTail n g s = (enterHead n f s).withFrameOutputs .tail (diagnosticsOf (tailWord n g)) := rfl

theorem sameButDiagnosticsAndVerdict_withFrameOutputs (v : Verdict) (d : Diagnostics) (t : State) :
    SameButDiagnosticsAndVerdict t (t.withFrameOutputs v d) := rfl

/-! ## What a completed frame runs (40_frame_assembly.md R73, 42_position_decoder.md R104) -/

/-- A decoded frame `w`, run in `s`: from the entry `e`, what its finger count selects (42_position_decoder.md R104). -/
def DecodedByFingers (w : FrameWord) (e t : State) : Prop :=
  (fingersOf w = 0 ∧ t = decodeF0 (buttonsOf w) e) ∨
  (fingersOf w = 1 ∧ t = decodeF1 (xOf w) (yrawOf w) (buttonsOf w) e) ∨
  (fingersOf w = 2 ∧ ∃ k, t = decodeF2 k (xOf w) (yrawOf w) e) ∨
  (fingersOf w = 3 ∧ t = e)

theorem enterHead_of_class {w : FrameWord} {n : BitVec 2} (hc : classifyV3 w = .head) (hn : fingersOf w = n)
    (s : State) : enterHead n (headFields w) s = writeDiagnostics w (beginFrame .head s) := by
  rw [enterHead, headWord_of_class hc hn]

theorem enterTail_of_class {w : FrameWord} {n : BitVec 2} (hc : classifyV3 w = .tail) (hn : fingersOf w = n)
    (s : State) : enterTail n (tailFields w) s = writeDiagnostics w (beginFrame .tail s) := by
  rw [enterTail, tailWord_of_class hc hn]

/-- A generation-3 frame is dropped at its entry or decoded by its finger count. -/
theorem decodeV3_next_cases {w : FrameWord} {s t : State} (h : exec (decodeV3 w) s = .next t) :
    (¬ Decoded w ∧ ∃ v, t = beginFrame v s) ∨
    (Decoded w ∧ ∃ v, DecodedByFingers w (writeDiagnostics w (beginFrame v s)) t) := by
  rcases decodeV3_cases w with ⟨hc, hd⟩ | ⟨hc, hd⟩ | ⟨hc, hn, hd⟩ | ⟨hc, hn, hd⟩ | ⟨hc, hn, hd⟩ | ⟨hc, hn, hd⟩ |
    ⟨hc, hn, hd⟩ | ⟨hc, hn, hd⟩ | ⟨hc, hn, hd⟩ | ⟨hc, hn, hd⟩ <;> rw [hd] at h <;> cases h
  · exact .inl ⟨by simp [hc], _, rfl⟩
  · exact .inl ⟨by simp [hc], _, rfl⟩
  · exact .inr ⟨.inl hc, .head, .inl ⟨hn, congrArg (decodeF0 _) (enterHead_of_class hc hn s)⟩⟩
  · exact .inr ⟨.inl hc, .head, .inr (.inl ⟨hn, congrArg (decodeF1 _ _ _) (enterHead_of_class hc hn s)⟩)⟩
  · exact .inr ⟨.inl hc, .head, .inr (.inr (.inl ⟨hn, .s0, congrArg (decodeF2 _ _ _) (enterHead_of_class hc hn s)⟩))⟩
  · exact .inr ⟨.inl hc, .head, .inr (.inr (.inr ⟨hn, enterHead_of_class hc hn s⟩))⟩
  · exact .inr ⟨.inr hc, .tail, .inl ⟨hn, congrArg (decodeF0 _) (enterTail_of_class hc hn s)⟩⟩
  · exact .inr ⟨.inr hc, .tail, .inr (.inl ⟨hn, congrArg (decodeF1 _ _ _) (enterTail_of_class hc hn s)⟩)⟩
  · exact .inr ⟨.inr hc, .tail, .inr (.inr (.inl ⟨hn, .s1, congrArg (decodeF2 _ _ _) (enterTail_of_class hc hn s)⟩))⟩
  · exact .inr ⟨.inr hc, .tail, .inr (.inr (.inr ⟨hn, enterTail_of_class hc hn s⟩))⟩

/-- A completed frame ends at its entry, or is a generation-3 Head or Tail frame decoded by its finger count. -/
theorem byteIn_complete_cases {v : Byte} {s t : State} (h : exec (.byteIn v) s = .next t)
    (hv : s.profile.valid = true) (hlast : s.asm.cnt.val + 1 = s.profile.pktsize.toNat) :
    (¬ (s.profile.gen = .g3 ∧ Decoded (wordIn (bufferWith v s))) ∧
      ∃ verdict, t = beginFrame verdict (storeByte v (clearStrobe s))) ∨
    (s.profile.gen = .g3 ∧ Decoded (wordIn (bufferWith v s)) ∧ ∃ verdict, DecodedByFingers (wordIn (bufferWith v s))
      (writeDiagnostics (wordIn (bufferWith v s)) (beginFrame verdict (storeByte v (clearStrobe s)))) t) := by
  have hrow := (execByteIn_complete v s hv ((completesFrame_iff s).2 hlast)).symm.trans h
  by_cases hg : s.profile.gen = .g3
  · rw [hg] at hrow
    rcases decodeV3_next_cases hrow with ⟨hd, hentry⟩ | ⟨hd, hdecoded⟩
    · exact .inl ⟨fun hgd => hd hgd.2, hentry⟩
    · exact .inr ⟨hg, hd, hdecoded⟩
  · obtain ⟨verdict, hentry⟩ := exec_decodeFrame_of_ne_g3 hg (bufferWith v s) (storeByte v (clearStrobe s))
    cases hentry.symm.trans hrow
    exact .inl ⟨fun hgd => hg hgd.1, verdict, rfl⟩

section
variable {w : FrameWord} {e t : State} (h : DecodedByFingers w e t)
include h

/-- MALFORMED after a decoded frame that was entered with MALFORMED = 0 (42_position_decoder.md R112). -/
theorem DecodedByFingers.malformed_iff (he : e.status.malformed = false) :
    t.status.malformed = true ↔
      (fingersOf w = 1 ∨ fingersOf w = 2) ∧ ¬ SampleValid e (xOf w) (yrawOf w) := by
  rcases h with ⟨hn, rfl⟩ | ⟨hn, rfl⟩ | ⟨hn, k, rfl⟩ | ⟨hn, rfl⟩
  · simp [hn, he]
  · rw [decodeF1_malformed _ _ _ he]
    simp [hn]
  · rw [decodeF2_malformed _ _ _ he]
    simp [hn]
  · simp [hn, he]

/-- LAST_COUNT after a decoded frame (42_position_decoder.md R110). -/
theorem DecodedByFingers.lastCount_eq :
    t.gesture.lastCount = if fingersOf w ≠ 3 then fingersOf w else e.gesture.lastCount := by
  rcases h with ⟨hn, rfl⟩ | ⟨hn, rfl⟩ | ⟨hn, k, rfl⟩ | ⟨hn, rfl⟩ <;> rw [hn]
  · rw [decodeF0_eq]
    rfl
  · rfl
  · rfl
  · rfl

end

/-! ## The statements -/

/-- Settles O25: after its entry both rows run DecodeF1, which a valid and an invalid sample take different ways. -/
theorem oneFingerFrameEffect : Obligations.OneFingerFrameEffect := by
  unfold Obligations.OneFingerFrameEffect
  exact ⟨fun f s => ⟨_, rfl, decodeF1_oneFinger .head (headWord 1 f) _ _ _ s⟩,
    fun f s => ⟨_, rfl, decodeF1_oneFinger .tail (tailWord 1 f) _ _ _ s⟩⟩

/-- Settles O26: after its entry a Head row runs DecodeF2 on slot 0 and a Tail row on slot 1. -/
theorem twoFingerFrameEffect : Obligations.TwoFingerFrameEffect := by
  unfold Obligations.TwoFingerFrameEffect
  exact ⟨fun f s => ⟨_, rfl, decodeF2_twoFingers (by decide) .head (headWord 2 f) _ _ s⟩,
    fun f s => ⟨_, rfl, decodeF2_twoFingers (by decide) .tail (tailWord 2 f) _ _ s⟩⟩

/-- Settles O32: the two entries differ in VERDICT and the diagnostics only, which the decoder does not read. -/
theorem headAndTailDecodeAlike : Obligations.HeadAndTailDecodeAlike := by
  unfold Obligations.HeadAndTailDecodeAlike
  intro f g s hb hx hy
  refine ⟨⟨_, _, rfl, rfl, ?_⟩, ⟨_, _, rfl, rfl, ?_⟩, ⟨_, _, rfl, rfl, ?_⟩⟩
  · rw [hb, enterTail_eq_withFrameOutputs 0 f g s, decodeF0_withFrameOutputs]
    exact sameButDiagnosticsAndVerdict_withFrameOutputs _ _ _
  · rw [hb, hx, hy, enterTail_eq_withFrameOutputs 1 f g s, decodeF1_withFrameOutputs]
    exact sameButDiagnosticsAndVerdict_withFrameOutputs _ _ _
  · rw [enterTail_eq_withFrameOutputs 3 f g s]
    exact sameButDiagnosticsAndVerdict_withFrameOutputs _ _ _

/-- Settles O36: a completed frame is entered with MALFORMED = 0, and only an invalid sample sets it. -/
theorem malformedExactlyForInvalidSample : Obligations.MalformedExactlyForInvalidSample := by
  unfold Obligations.MalformedExactlyForInvalidSample
  intro v s t h hv hlast
  rcases byteIn_complete_cases h hv hlast with ⟨hn, verdict, rfl⟩ | ⟨hg, hd, verdict, hdecoded⟩
  · exact iff_of_false Bool.false_ne_true fun ⟨hg, hd, _⟩ => hn ⟨hg, hd⟩
  · rw [hdecoded.malformed_iff rfl, and_iff_right hg, and_iff_right hd]
    rfl

/-- Settles O37: the decoder writes the finger count whatever the sample, and no other frame writes LAST_COUNT. -/
theorem lastCountAtFrameCompletion : Obligations.LastCountAtFrameCompletion := by
  unfold Obligations.LastCountAtFrameCompletion
  intro v s t h hv hlast
  rcases byteIn_complete_cases h hv hlast with ⟨hn, verdict, rfl⟩ | ⟨hg, hd, verdict, hdecoded⟩
  · rw [if_neg fun ⟨hg, hd, _⟩ => hn ⟨hg, hd⟩]
    rfl
  · rw [hdecoded.lastCount_eq]
    simp only [hg, hd, true_and]
    rfl

/-- Settles O39: 13 bits hold every decoded y and 16 bits every difference of two points, so nothing wraps. -/
theorem decodedValuesAreExact : Obligations.DecodedValuesAreExact := by
  unfold Obligations.DecodedValuesAreExact
  refine ⟨fun ymax x yraw => ?_, fun ymax x yraw ymax' x' yraw' h h' => ?_,
    fun i x yraw b s t hrow h hvalid hl => ?_⟩
  · obtain ⟨hlo, hhi⟩ := decodeSample_yInt_bounds ymax x yraw
    have hx := x.isLt
    have hymax := ymax.isLt
    exact ⟨rfl, by omega, decodeSample_yInt ymax x yraw, by omega, by omega, hlo, hhi,
      decodeSample_isValid_iff ymax x yraw⟩
  · obtain ⟨hdx, hdy, hsame⟩ := validSamples_delta_bounds h h'
    exact ⟨hdx, hdy, hsame, eventPort_exact (by omega), eventPort_exact (by omega)⟩
  · obtain ⟨v, w, -, -, -, -, -, -, hmotion⟩ := oneFingerRow_oneFinger hrow h
    obtain ⟨-, -, hevent, -⟩ := hmotion hvalid
    obtain ⟨hdx, hdy⟩ := motion_deltas_fit s x yraw s.gesture.lastX s.gesture.lastY
    rw [hevent hl]
    exact ⟨eventPort_exact hdx, eventPort_exact hdy⟩

/-- Settles O24: after its entry both rows run DecodeF0, whose tap bit is that of the state before the release. -/
theorem releaseFrameEffect : Obligations.ReleaseFrameEffect := by
  unfold Obligations.ReleaseFrameEffect
  exact ⟨fun f s => ⟨_, rfl, decodeF0_released .head (headWord 0 f) _ s⟩,
    fun f s => ⟨_, rfl, decodeF0_released .tail (tailWord 0 f) _ s⟩⟩

/-- Settles O27: both rows are the entry of their frame. -/
theorem threeFingerFrameEffect : Obligations.ThreeFingerFrameEffect := by
  unfold Obligations.ThreeFingerFrameEffect
  exact ⟨fun _ _ => rfl, fun _ _ => rfl⟩

/-- Settles O40: the event port is wide enough for both deltas, and a byte without a profile leaves the strobe down. -/
theorem sinkTakesEmittedEvent : Obligations.SinkTakesEmittedEvent := by
  unfold Obligations.SinkTakesEmittedEvent
  refine ⟨fun dx dy b s ts hdx hdy => ?_, fun v s t ts hv h => ?_⟩
  · simp [State.outboundEvent, eventPort_exact (show dx.natAbs < 2 ^ 15 by omega),
      eventPort_exact (show dy.natAbs < 2 ^ 15 by omega)]
  · cases (execByteIn_discarded v s hv).symm.trans h
    rfl

end Sys2Proof.Machine
end

section
/-!
SUPPORT. The proofs of family 43_tap_gesture.md: what no frame but a full release undoes, the release of a disqualified
contact, and the release of a contact that stays within the threshold.
-/

namespace Sys2Proof.Machine

open Sys2Proof.Spec

/-! ## Lists of instructions and the release at their end -/

/-- What every instruction of a list keeps, the list keeps, and it completes (60_exceptions.md R150). -/
theorem execAll_keeps {P : State → Prop} {l : List Instr}
    (hkeeps : ∀ i ∈ l, ∀ s t, P s → exec i s = .next t → P t) {s : State} (hs : P s) :
    ∃ t, execAll l s = .next t ∧ P t := by
  induction l generalizing s with
  | nil => exact ⟨s, rfl, hs⟩
  | cons i l ih =>
    obtain ⟨m, hm⟩ := exec_next i s
    have hPm := hkeeps i List.mem_cons_self s m hs hm
    obtain ⟨t, hrun, ht⟩ := ih (fun j hj => hkeeps j (List.mem_cons_of_mem _ hj)) hPm
    exact ⟨t, (execAll_cons l hm).trans hrun, ht⟩

/-- A release, Head or Tail, completes and its event carries the physical buttons and the tap bit
(42_position_decoder.md R105). -/
theorem releaseRow_event {r : Instr} {buttons : BitVec 2} (hrow : ReleaseRow r buttons) (s : State) :
    ∃ t, exec r s = .next t ∧ t.event = ⟨true, 0, 0, buttons ||| tapBit s⟩ := by
  rcases hrow with ⟨f, rfl, rfl⟩ | ⟨f, rfl, rfl⟩
  · obtain ⟨-, -, -, hevent, -⟩ := decodeF0_released .head (headWord 0 f) f.buttons s
    exact ⟨_, rfl, hevent⟩
  · obtain ⟨-, -, -, hevent, -⟩ := decodeF0_released .tail (tailWord 0 f) f.buttons s
    exact ⟨_, rfl, hevent⟩

/-! ## Disqualification is one-way (43_tap_gesture.md R133) -/

/-- A slot, `a` before and `b` after: a start point stays where it is, a latched slot out of range stays out of range,
and TAP_IN_RANGE rises at the latch only (43_tap_gesture.md R131, R133). -/
structure FingerTrack.OneWay (a b : FingerTrack) : Prop where
  latched : a.startValid = true → b.startValid = true ∧ b.startX = a.startX ∧ b.startY = a.startY ∧
    (a.tapInRange = false → b.tapInRange = false)
  rises   : a.tapInRange = false → b.tapInRange = true → a.startValid = false ∧ b.startValid = true

/-- Nothing of the tap machine that only a full release may undo was undone between `s` and `t` (43_tap_gesture.md
R133). -/
structure State.OneWay (s t : State) : Prop where
  tapToClick : s.gesture.tapToClick = false → t.gesture.tapToClick = false
  slot       : ∀ k, (s.slot k).OneWay (t.slot k)

theorem FingerTrack.OneWay.refl (a : FingerTrack) : a.OneWay a :=
  ⟨fun h => ⟨h, rfl, rfl, id⟩, fun hout hin => absurd (hout.symm.trans hin) Bool.false_ne_true⟩

theorem State.OneWay.refl (s : State) : s.OneWay s := ⟨id, fun _ => .refl _⟩

/-- Only the decode state counts, so the entry of a frame and the storing of its last byte may come first. -/
theorem State.OneWay.after_sameDecodeState {s e t : State} (h : e.OneWay t) (hsame : SameDecodeState s e) :
    s.OneWay t := by
  obtain ⟨hslot0, hslot1, hgesture⟩ := hsame
  have hslot := (State.slots_eq_iff e s).1 ⟨hslot0, hslot1⟩
  exact ⟨hgesture ▸ h.tapToClick, fun k => hslot k ▸ h.slot k⟩

theorem oneWay_of_sameDecodeState {s t : State} (h : SameDecodeState s t) : s.OneWay t :=
  (State.OneWay.refl t).after_sameDecodeState h

/-- The latch and the comparator are one-way for their slot and for TAP_TO_CLICK. -/
theorem tracked_oneWay {a b : FingerTrack} {c d : Bool} {x y : Int} (h : Tracked a b c d x y) :
    a.OneWay b ∧ (c = false → d = false) := by
  obtain ⟨-, -, -, hstart, hfirst, hlater⟩ := h
  cases ha : a.startValid with
  | false =>
    obtain ⟨-, -, -, hflag⟩ := hfirst ha
    exact ⟨⟨fun h => absurd (ha.symm.trans h) Bool.false_ne_true, fun _ _ => ⟨ha, hstart⟩⟩, hflag.trans⟩
  | true =>
    obtain ⟨hx, hy, hfar, hnear⟩ := hlater ha
    have hcompare : (a.tapInRange = false → b.tapInRange = false) ∧ (c = false → d = false) := by
      by_cases hd : 32 < (x - (a.startX.toNat : Int)).natAbs ∨ 32 < (y - a.startY.toInt).natAbs
      · exact ⟨fun _ => (hfar hd).1, fun _ => (hfar hd).2⟩
      · exact ⟨(hnear hd).1.trans, (hnear hd).2.trans⟩
    exact ⟨⟨fun _ => ⟨hstart, hx, hy, hcompare.1⟩,
      fun hout hin => absurd ((hcompare.1 hout).symm.trans hin) Bool.false_ne_true⟩, hcompare.2⟩

theorem decodeF1_oneWay (x yraw : BitVec 12) (b : BitVec 2) (s : State) : s.OneWay (decodeF1 x yraw b s) := by
  cases hvalid : (decodeSample s.profile.ymax x yraw).isValid with
  | false =>
    rw [decodeF1_invalid x yraw b s hvalid]
    exact ⟨id, (State.OneWay.refl s).slot⟩
  | true =>
    obtain ⟨hslot, hflag⟩ := tracked_oneWay (decodeF1_tracked_of_isValid hvalid b)
    refine ⟨hflag, fun k => ?_⟩
    cases k with
    | s0 => exact hslot
    | s1 =>
      rw [State.slot_s1, State.slot_s1, decodeF1_slot1]
      exact .refl _

theorem decodeF2_oneWay (k : SlotId) (x yraw : BitVec 12) (s : State) : s.OneWay (decodeF2 k x yraw s) := by
  cases hvalid : (decodeSample s.profile.ymax x yraw).isValid with
  | false =>
    rw [decodeF2_invalid k x yraw s hvalid]
    exact ⟨id, (State.OneWay.refl s).slot⟩
  | true =>
    obtain ⟨hslot, hflag⟩ := tracked_oneWay (decodeF2_tracked_of_isValid hvalid k)
    refine ⟨hflag, fun j => ?_⟩
    by_cases hj : j = k
    · subst hj
      exact hslot
    · rw [decodeF2_slot_ne hj]
      exact .refl _

/-- A frame row that is no full release is one-way. -/
theorem keepsContact_oneWay {i : Instr} {s t : State} (hkeeps : keepsContact i = true) (h : exec i s = .next t) :
    s.OneWay t := by
  cases i with
  | byteIn _ => cases hkeeps
  | cfgLoad _ _ _ => cases hkeeps
  | v3HeadF0 _ => cases hkeeps
  | v3TailF0 _ => cases hkeeps
  | v3HeadF1 f => cases h; exact (decodeF1_oneWay _ _ _ (enterHead 1 f s)).after_sameDecodeState ⟨rfl, rfl, rfl⟩
  | v3TailF1 f => cases h; exact (decodeF1_oneWay _ _ _ (enterTail 1 f s)).after_sameDecodeState ⟨rfl, rfl, rfl⟩
  | v3HeadF2 f => cases h; exact (decodeF2_oneWay _ _ _ (enterHead 2 f s)).after_sameDecodeState ⟨rfl, rfl, rfl⟩
  | v3TailF2 f => cases h; exact (decodeF2_oneWay _ _ _ (enterTail 2 f s)).after_sameDecodeState ⟨rfl, rfl, rfl⟩
  | _ => cases h; exact oneWay_of_sameDecodeState ⟨rfl, rfl, rfl⟩

/-- A decoded frame with a finger down is one-way. -/
theorem DecodedByFingers.oneWay {w : FrameWord} {e t : State} (h : DecodedByFingers w e t) (hn : fingersOf w ≠ 0) :
    e.OneWay t := by
  rcases h with ⟨h0, -⟩ | ⟨-, rfl⟩ | ⟨-, k, rfl⟩ | ⟨-, rfl⟩
  · exact absurd h0 hn
  · exact decodeF1_oneWay _ _ _ e
  · exact decodeF2_oneWay k _ _ e
  · exact .refl _

/-- A byte that completes no full release is one-way. -/
theorem byteIn_oneWay {v : Byte} {s t : State} (h : exec (.byteIn v) s = .next t)
    (hn : s.profile.valid = true → s.asm.cnt.val + 1 = s.profile.pktsize.toNat → s.profile.gen = .g3 →
      Decoded (wordIn (bufferWith v s)) → fingersOf (wordIn (bufferWith v s)) ≠ 0) : s.OneWay t := by
  by_cases hc : s.profile.valid = true ∧ s.asm.cnt.val + 1 = s.profile.pktsize.toNat
  · obtain ⟨hv, hlast⟩ := hc
    rcases byteIn_complete_cases h hv hlast with ⟨-, verdict, rfl⟩ | ⟨hg, hd, verdict, hdecoded⟩
    · exact oneWay_of_sameDecodeState ⟨rfl, rfl, rfl⟩
    · exact (hdecoded.oneWay (hn hv hlast hg hd)).after_sameDecodeState ⟨rfl, rfl, rfl⟩
  · rw [byteIn_incomplete v s t h hc]
    exact oneWay_of_sameDecodeState ⟨rfl, rfl, rfl⟩

/-! ## The tap bit of a release (43_tap_gesture.md R134) -/

theorem tapBit_of_disqualified {s : State} (h : s.gesture.tapToClick = false) : tapBit s = 0#2 := by
  simp [tapBit, h]

/-- A one-finger contact of slot 0 alone, under one profile, that started at (x0, y0) and has stayed in range
(43_tap_gesture.md R130). -/
structure State.HoldsStill (p : Profile) (x0 y0 : Int) (s : State) : Prop where
  profile    : s.profile = p
  lastCount  : s.gesture.lastCount = 1
  tapToClick : s.gesture.tapToClick = true
  latched    : s.slot0.startValid = true
  startX     : (s.slot0.startX.toNat : Int) = x0
  startY     : s.slot0.startY.toInt = y0
  inRange    : s.slot0.tapInRange = true
  otherIdle  : s.slot1.startValid = false

theorem State.HoldsStill.tapBit_eq {p : Profile} {x0 y0 : Int} {s : State} (h : s.HoldsStill p x0 y0) :
    tapBit s = 1 := by
  simp [tapBit, h.lastCount, h.tapToClick, h.inRange, h.otherIdle]

/-! ## A contact that stays within the threshold (43_tap_gesture.md R131, R132, R136) -/

/-- What a valid one-finger sample does to the registers of the tap machine (42_position_decoder.md R106). -/
theorem oneFingerRow_tracked {i : Instr} {x yraw : BitVec 12} {b : BitVec 2} {s t : State}
    (hrow : OneFingerRow i x yraw b) (hvalid : SampleValid s x yraw) (h : exec i s = .next t) :
    t.profile = s.profile ∧ t.slot1 = s.slot1 ∧ t.gesture.lastCount = 1 ∧
      Tracked s.slot0 t.slot0 s.gesture.tapToClick t.gesture.tapToClick (x.toNat : Int) (invertedY s yraw) := by
  obtain ⟨v, w, ⟨hprofile, -⟩, -, hslot1, -, hcount, -, hmotion⟩ := oneFingerRow_oneFinger hrow h
  obtain ⟨-, -, -, -, -, -, htracked⟩ := hmotion hvalid
  exact ⟨hprofile, hslot1, hcount, htracked⟩

/-- A sample is read under the profile alone. -/
theorem nearOneFinger_congr {s t : State} (h : t.profile = s.profile) (x0 y0 : Int) (i : Instr) :
    NearOneFinger t x0 y0 i ↔ NearOneFinger s x0 y0 i := by
  simp only [NearOneFinger, SampleValid, invertedY, h]

/-- The first valid sample after a release starts such a contact at its own point (43_tap_gesture.md R131). -/
theorem firstSample_holdsStill {s t : State} {i : Instr} {x yraw : BitVec 12} {b : BitVec 2}
    (hidle0 : s.slot0.startValid = false) (hidle1 : s.slot1.startValid = false) (htap : s.gesture.tapToClick = true)
    (hrow : OneFingerRow i x yraw b) (hvalid : SampleValid s x yraw) (h : exec i s = .next t) :
    t.HoldsStill s.profile (x.toNat : Int) (invertedY s yraw) := by
  obtain ⟨hprofile, hslot1, hcount, -, -, -, hstart, hfirst, -⟩ := oneFingerRow_tracked hrow hvalid h
  obtain ⟨hx, hy, hin, hflag⟩ := hfirst hidle0
  exact ⟨hprofile, hcount, hflag.trans htap, hstart, hx, hy, hin, hslot1 ▸ hidle1⟩

/-- A later sample at a displacement of at most 32 passes the comparator (43_tap_gesture.md R132). -/
theorem nearSample_holdsStill {s0 s t : State} {i : Instr} {x0 y0 : Int} (hold : s.HoldsStill s0.profile x0 y0)
    (hnear : NearOneFinger s0 x0 y0 i) (h : exec i s = .next t) : t.HoldsStill s0.profile x0 y0 := by
  obtain ⟨x, yraw, b, hrow, hvalid, hdx, hdy⟩ := (nearOneFinger_congr hold.profile x0 y0 i).2 hnear
  obtain ⟨hprofile, hslot1, hcount, -, -, -, hstart, -, hlater⟩ := oneFingerRow_tracked hrow hvalid h
  obtain ⟨hx, hy, -, hcompare⟩ := hlater hold.latched
  rw [hold.startX, hold.startY] at hcompare
  obtain ⟨hin, hflag⟩ := hcompare (by omega)
  exact ⟨hprofile.trans hold.profile, hcount, hflag.trans hold.tapToClick, hstart, hx ▸ hold.startX,
    hy ▸ hold.startY, hin.trans hold.inRange, hslot1 ▸ hold.otherIdle⟩

/-! ## The statements -/

/-- Settles O41: the tap machine's latch and comparator are one-way, and nothing but a release or a load writes past
them. -/
theorem disqualificationIsOneWay : Obligations.DisqualificationIsOneWay := by
  unfold Obligations.DisqualificationIsOneWay
  intro i s t h hload hhead htail hbyte
  have honeWay : s.OneWay t := by
    cases i with
    | byteIn v => exact byteIn_oneWay h (hbyte v rfl)
    | cfgLoad fw ymax o => exact absurd rfl (hload fw ymax o)
    | v3HeadF0 f => exact absurd rfl (hhead f)
    | v3TailF0 f => exact absurd rfl (htail f)
    | _ => exact keepsContact_oneWay rfl h
  exact ⟨honeWay.tapToClick, fun k => (honeWay.slot k).latched, fun k => (honeWay.slot k).rises⟩

/-- Settles O42: every row of the list keeps TAP_TO_CLICK = 0, and with it a release has no tap bit. -/
theorem disqualifiedContactNeverClicks : Obligations.DisqualifiedContactNeverClicks := by
  unfold Obligations.DisqualifiedContactNeverClicks
  intro l s r buttons hl hs hrow
  obtain ⟨t, hrun, ht⟩ := execAll_keeps (P := fun t => t.gesture.tapToClick = false)
    (fun i hi _ _ hflag h => (keepsContact_oneWay (hl i hi) h).tapToClick hflag) hs
  obtain ⟨u, hu, hevent⟩ := releaseRow_event hrow t
  exact ⟨t, u, hrun, hu, by rw [hevent, tapBit_of_disqualified ht, BitVec.or_zero]⟩

/-- Settles O44: the first sample latches the start point, every later one passes the comparator, and so the release of
one finger has the left bit. -/
theorem stationaryHoldStillClicks : Obligations.StationaryHoldStillClicks := by
  unfold Obligations.StationaryHoldStillClicks
  intro s i0 l r x yraw b buttons hidle0 hidle1 htap hrow0 hvalid hnear hrow
  obtain ⟨m, hm⟩ := exec_next i0 s
  have hfirst := firstSample_holdsStill hidle0 hidle1 htap hrow0 hvalid hm
  obtain ⟨t, hrun, hold⟩ := execAll_keeps
    (fun i hi _ _ hold h => nearSample_holdsStill hold (hnear i hi) h) hfirst
  obtain ⟨u, hu, hevent⟩ := releaseRow_event hrow t
  exact ⟨t, u, (execAll_cons l hm).trans hrun, hu, by rw [hevent, hold.tapBit_eq]⟩

end Sys2Proof.Machine
end

section
/-!
SUPPORT. The proofs of family 60_exceptions.md: waiting, and a power transition until the reset and the CFG_LOAD that bring
the block back.
-/

namespace Sys2Proof.Machine

open Sys2Proof.Spec

/-! ## Runs that go on, and runs that stop -/

/-- If every run from the next state completes, so does every run from this one. -/
theorem run_completes_of_step {s t : core.State} (h : core.step s = .next t)
    (hruns : ∀ n, ∃ u, core.run n t = .next u) (n : Nat) : ∃ u, core.run n s = .next u := by
  cases n with
  | zero => exact ⟨s, rfl⟩
  | succ n =>
    obtain ⟨u, hu⟩ := hruns n
    exact ⟨u, (run_succ n s t h).trans hu⟩

theorem run_succ_fault (n : Nat) (s : core.State) (r : core.Fault) (h : core.step s = .fault r) :
    core.run (n + 1) s = .fault r := by
  simp only [Host.Core.run, h]

/-! ## After a power transition (60_exceptions.md R159; log 11) -/

theorem losePower_holdsRegisters (s : State) :
    HoldsRegisters (Config.afterPowerTransition s.power.transitions) (losePower s) :=
  ⟨rfl, rfl, rfl, rfl, rfl, rfl, rfl, rfl⟩

/-- A power transition and a reset leave the block waiting for a CFG_LOAD, whatever the state was. -/
theorem reset_after_powerTransition_awaitsLoad {s : State} {rest : List Transaction}
    (h : s.inputs = .powerTransition :: .reset :: rest) :
    ∃ m t, step s = .next m ∧ step m = .next t ∧ t.inputs = rest ∧ t.power.stage = .awaitingLoad := by
  refine ⟨_, _, step_powerTransition s _ h, step_reset _ rest (by simp), ?_, ?_⟩
  · simp
  · simp

theorem byte_awaitingLoad_faults {s : State} {v : Byte} {rest : List Transaction} (h : s.inputs = .port8 v :: rest)
    (hstage : s.power.stage = .awaitingLoad) : step s = .fault .noLoadSincePowerTransition :=
  step_port_fault s _ rest _ _ h rfl (by rw [hstage, portFault_awaitingLoad_port8])

theorem load_awaitingLoad_runs {s : State} {c : ConfigWord} {rest : List Transaction} (h : s.inputs = .portCfg c :: rest)
    (hstage : s.power.stage = .awaitingLoad) : step s = exec (decodeConfig c) (s.accept rest) :=
  step_port s _ rest _ h rfl ((portFault_portCfg _ c).2 (by simp [hstage]))

/-- The CFG_LOAD completes and leaves no power transition behind the block. -/
theorem load_awaitingLoad_intact {s : State} {c : ConfigWord} {rest : List Transaction}
    (h : s.inputs = .portCfg c :: rest) (hstage : s.power.stage = .awaitingLoad) :
    ∃ t, step s = .next t ∧ t.inputs = rest ∧ t.power.stage = .intact := by
  obtain ⟨t, ht⟩ := exec_next (decodeConfig c) (s.accept rest)
  obtain ⟨hinputs, hpower⟩ := exec_keeps_inputs_power _ _ t ht
  exact ⟨t, (load_awaitingLoad_runs h hstage).trans ht, by simp [hinputs], by simp [hpower]⟩

/-! ## The statements -/

/-- Settles O50: the load ends the wait that the reset began, and from there every run completes (O13); a byte in its
place meets the wait. -/
theorem resetAndLoadEndPowerTransition : Obligations.ResetAndLoadEndPowerTransition := by
  unfold Obligations.ResetAndLoadEndPowerTransition
  refine ⟨fun n s c rest hs hrest => ?_, fun n s v rest hs => ?_⟩
  · obtain ⟨m, t, hm, ht, hinputs, hstage⟩ := reset_after_powerTransition_awaitsLoad hs
    obtain ⟨u, hu, hinputs', hstage'⟩ := load_awaitingLoad_intact hinputs hstage
    have hruns : ∀ n, ∃ r, core.run n u = .next r := fun n =>
      everyInputSequenceAccepted n u hstage' (hinputs' ▸ hrest)
    exact run_completes_of_step hm (run_completes_of_step ht (run_completes_of_step hu hruns)) n
  · obtain ⟨m, t, hm, ht, hinputs, hstage⟩ := reset_after_powerTransition_awaitsLoad hs
    calc core.run (n + 3) s
      _ = core.run (n + 2) m := run_succ (n + 2) s m hm
      _ = core.run (n + 1) t := run_succ (n + 1) m t ht
      _ = .fault .noLoadSincePowerTransition := run_succ_fault n t _ (byte_awaitingLoad_faults hinputs hstage)

/-- Settles O6, by the offered transaction and, for a port transaction, the power stage that accepts or refuses it. -/
theorem waitingAndPowerTransition : Obligations.WaitingAndPowerTransition := by
  unfold Obligations.WaitingAndPowerTransition
  refine ⟨step_idle, fun s rest hs => ?_, fun s tr rest i hs hd hstage => ?_, fun s rest hs => ?_,
    fun s v rest hs hstage => byte_awaitingLoad_faults hs hstage,
    fun s c rest hs hstage => load_awaitingLoad_runs hs hstage⟩
  · exact ⟨_, step_powerTransition s rest hs, rfl, rfl, losePower_holdsRegisters (s.setInputs rest)⟩
  · exact step_port_fault s tr rest i _ hs hd (by rw [hstage, portFault_lost])
  · refine ⟨_, step_reset s rest hs, rfl, ?_, ?_⟩
    · exact (PowerStage.afterReset_intact s.power.stage).2
    · exact (PowerStage.afterReset_awaitingLoad s.power.stage).2

end Sys2Proof.Machine
end

section
/-!
SUPPORT. The proofs of family 70_reset_and_hazards.md: what a reset writes, the states it leaves as they are, and the
last point across two-finger frames.
-/

namespace Sys2Proof.Machine

open Sys2Proof.Spec

/-! ## What a reset writes, and the states it leaves as they are (70_reset_and_hazards.md R170) -/

/-- A reset applies DecodeReset; taking it off the queue touches no register (log 2). -/
theorem fullReset_setInputs_done (s : State) (rest : List Transaction) :
    DecodeResetDone s (fullReset (s.setInputs rest)) :=
  ⟨rfl, rfl, rfl, rfl, rfl, rfl, rfl, rfl⟩

theorem FingerTrack.idle_eq_self_of_alike_reset {t : FingerTrack} (h : FingerTrack.reset.alike t) : t.idle = t := by
  obtain ⟨hpos, hstart, hrange, -, -⟩ := h
  change FingerTrack.mk FingerTrack.reset.posValid _ _ FingerTrack.reset.startValid _ _ FingerTrack.reset.tapInRange = t
  rw [hpos, hstart, hrange]

/-- A reset leaves every state as it is that differs from the one after reset in unspecified registers only: it writes
the value it finds to the others, and none of these (log 4). -/
theorem fullReset_eq_self_of_alike_reset {s : State} (h : State.reset.Alike s) : fullReset s = s := by
  have hprofile : (fullReset s).profile = s.profile := congrArg (fun v => { s.profile with valid := v }) h.profileValid
  have hasm : (fullReset s).asm = s.asm := congrArg (Assembler.mk s.asm.fb) h.cnt
  have hslot0 : (fullReset s).slot0 = s.slot0 := FingerTrack.idle_eq_self_of_alike_reset h.slot0
  have hslot1 : (fullReset s).slot1 = s.slot1 := FingerTrack.idle_eq_self_of_alike_reset h.slot1
  have hgesture : (fullReset s).gesture = s.gesture := by
    rw [fullReset_gesture, Gesture.mk.injEq]
    exact ⟨h.lastCount, h.tapToClick, h.lastValid, rfl, rfl⟩
  have hpower : (fullReset s).power = s.power := by
    rw [fullReset_power, ← h.power]
    rfl
  calc fullReset s
    _ = ⟨s.profile, s.asm, s.slot0, s.slot1, s.gesture, s.status, s.event, s.diag, s.inputs, s.power⟩ := by
      rw [← hprofile, ← hasm, ← hslot0, ← hslot1, ← hgesture, ← hpower, ← h.status, ← h.event, ← h.diag]
      rfl
    _ = s := rfl

/-! ## The last point across two-finger frames (70_reset_and_hazards.md R176) -/

/-- What a one-finger motion event is made from, and the event port, are in `t` what they are in `s`
(42_position_decoder.md R106). -/
structure State.KeepsLastPoint (s t : State) : Prop where
  profile   : t.profile = s.profile
  lastValid : t.gesture.lastValid = s.gesture.lastValid
  lastX     : t.gesture.lastX = s.gesture.lastX
  lastY     : t.gesture.lastY = s.gesture.lastY
  event     : t.event = s.event

theorem State.KeepsLastPoint.refl (s : State) : s.KeepsLastPoint s := ⟨rfl, rfl, rfl, rfl, rfl⟩

theorem State.KeepsLastPoint.trans {s t u : State} (h : s.KeepsLastPoint t) (h' : t.KeepsLastPoint u) :
    s.KeepsLastPoint u :=
  ⟨h'.profile.trans h.profile, h'.lastValid.trans h.lastValid, h'.lastX.trans h.lastX, h'.lastY.trans h.lastY,
    h'.event.trans h.event⟩

/-- A two-finger frame writes of the gesture state at most LAST_COUNT and TAP_TO_CLICK, whatever its sample
(42_position_decoder.md R107, R108). -/
theorem twoFingers_keepsLastPoint {s t : State} {k other : SlotId} {v : Verdict} {w : FrameWord} {x yraw : BitVec 12}
    (h : TwoFingers s t k other v w x yraw) : s.KeepsLastPoint t := by
  obtain ⟨⟨hprofile, -⟩, -, hevent, -, -, hinvalid, hvalid⟩ := h
  have hgesture : t.gesture = { s.gesture with lastCount := 2, tapToClick := t.gesture.tapToClick } := by
    by_cases hsample : SampleValid s x yraw
    · obtain ⟨-, hgesture, -⟩ := hvalid hsample
      exact hgesture
    · obtain ⟨-, -, hgesture⟩ := hinvalid hsample
      rw [hgesture]
  exact ⟨hprofile, by rw [hgesture], by rw [hgesture], by rw [hgesture], hevent⟩

/-- A two-finger row, Head or Tail, is a two-finger frame, and so keeps the last point. -/
theorem twoFingerRow_keepsLastPoint {i : Instr} {s t : State} (hrow : (∃ g, i = .v3HeadF2 g) ∨ ∃ g, i = .v3TailF2 g)
    (h : exec i s = .next t) : s.KeepsLastPoint t := by
  rcases hrow with ⟨g, rfl⟩ | ⟨g, rfl⟩ <;> cases h
  · exact twoFingers_keepsLastPoint
      (decodeF2_twoFingers (other := .s1) (by decide) .head (headWord 2 g) g.x g.yraw s)
  · exact twoFingers_keepsLastPoint
      (decodeF2_twoFingers (other := .s0) (by decide) .tail (tailWord 2 g) g.x g.yraw s)

/-- A one-finger row with a valid sample, where a last point is valid, raises the difference to it
(42_position_decoder.md R106). -/
theorem oneFingerRow_motion {i : Instr} {x yraw : BitVec 12} {buttons : BitVec 2} {s : State}
    (hrow : OneFingerRow i x yraw buttons) (hvalid : SampleValid s x yraw) (hlast : s.gesture.lastValid = true) :
    ∃ t, exec i s = .next t ∧
      t.event = ⟨true, BitVec.ofInt 16 ((x.toNat : Int) - (s.gesture.lastX.toNat : Int)),
        BitVec.ofInt 16 (invertedY s yraw - s.gesture.lastY.toInt), buttons⟩ := by
  obtain ⟨t, ht⟩ := exec_next i s
  obtain ⟨v, w, -, -, -, -, -, -, hmotion⟩ := oneFingerRow_oneFinger hrow ht
  obtain ⟨-, -, hevent, -⟩ := hmotion hvalid
  exact ⟨t, ht, hevent hlast⟩

/-- A raw y is inverted under the profile alone (42_position_decoder.md R100). -/
theorem invertedY_congr {s t : State} (h : t.profile = s.profile) (yraw : BitVec 12) :
    invertedY t yraw = invertedY s yraw := by
  simp only [invertedY, h]

/-! ## The statements -/

/-- Settles O43: every two-finger row keeps the last point and the profile, which are all that the one-finger row after
them subtracts from its sample. -/
theorem lastPointSurvivesTwoFingers : Obligations.LastPointSurvivesTwoFingers := by
  unfold Obligations.LastPointSurvivesTwoFingers
  intro l s r x yraw buttons hl hlast hrow ⟨hx, hyne⟩
  obtain ⟨t, hrun, hkept⟩ := execAll_keeps
    (fun i hi _ _ hkept h => hkept.trans (twoFingerRow_keepsLastPoint (hl i hi) h)) (State.KeepsLastPoint.refl s)
  have hy := invertedY_congr hkept.profile yraw
  have hlast' := hkept.lastValid.trans hlast
  obtain ⟨u, hu, hevent⟩ := oneFingerRow_motion hrow (s := t) ⟨hx, hy ▸ hyne⟩ hlast'
  rw [hkept.lastX, hkept.lastY, hy] at hevent
  exact ⟨t, u, hrun, hu, hlast', hkept.lastX, hkept.lastY, hkept.event, hevent⟩

/-- Settles O1: a reset and a load both end in DecodeReset, and a reset leaves the state after reset as it is. -/
theorem resetClearsProfileAndDecodeState : Obligations.ResetClearsProfileAndDecodeState := by
  unfold Obligations.ResetClearsProfileAndDecodeState
  obtain ⟨-, hload⟩ := cfgLoadWritesProfile
  refine ⟨fun s rest hs => ?_, fun fw ymax o s => ?_, rfl, fullReset_setInputs_done State.reset []⟩
  · exact ⟨_, step_reset s rest hs, rfl, fullReset_setInputs_done s rest, rfl⟩
  · obtain ⟨t, ht, hdone, -⟩ := hload fw ymax o s
    exact ⟨t, ht, hdone⟩

/-- Settles O46: a reset gives every state the invariant, and a state alike to the one after reset is its own reset. -/
theorem resetHasInvariant : Obligations.ResetHasInvariant := by
  unfold Obligations.ResetHasInvariant
  have halike (s : State) (h : State.reset.Alike s) : s.Inv := by
    rw [← fullReset_eq_self_of_alike_reset h]
    exact fullReset_inv s
  exact ⟨halike State.reset (.refl _), halike⟩

end Sys2Proof.Machine
end

section
/-!
SUPPORT. The proofs of family other: every word of a width that the opcode table has decodes to its row, and the table's
own words and the vectors are the words of their rows (opcode_table.json; 95_test_vectors.md 2.4).
-/

namespace Sys2Proof.Machine

/-! ## The opcode table's words by width (log 8, log 9) -/

theorem decodeTableWord_byteIn (v : Byte) : decodeTableWord 8 v.toNat = some (.byteIn v) := by
  simp [decodeTableWord, v.isLt, decodeBytes, Except.toOption]

theorem decodeTableWord_config {nbits : Nat} (hn : nbits = 37 ∨ nbits = 40) (c : ConfigWord) :
    decodeTableWord nbits c.toNat = some (decodeConfig c) := by
  have h8 : nbits ≠ 8 := by omega
  simp [decodeTableWord, h8, hn, c.isLt, decodeBytes_configBytes, Except.toOption]

theorem decodeTableWord_shortFrame (w : ShortFrameWord) : decodeTableWord 32 w.toNat = some (.v1Frame w) := by
  simp [decodeTableWord, w.isLt, decodeBytes_frame_g1, Except.toOption]

theorem decodeTableWord_frame (w : FrameWord) : decodeTableWord 48 w.toNat = some (decodeV3 w) := by
  simp [decodeTableWord, w.isLt, decodeBytes_frame_g3, Except.toOption]

/-! ## The opcode table's words by row -/

theorem decodeTableWord_configWord {nbits : Nat} (hn : nbits = 37 ∨ nbits = 40) (fw : Firmware) (ymax : BitVec 12)
    (o : ParityOverride) : decodeTableWord nbits (configWord fw ymax o).toNat = some (.cfgLoad fw ymax o) :=
  (decodeTableWord_config hn _).trans (congrArg some (decodeConfig_configWord fw ymax o))

/-- A 48-bit word decodes to the row of its generation-3 frame. -/
theorem decodeTableWord_of_decodeV3 {w : FrameWord} {i : Instr} (h : decodeV3 w = i) :
    decodeTableWord 48 w.toNat = some i :=
  (decodeTableWord_frame w).trans (congrArg some h)

/-! ## The statement -/

/-- Settles O22: each number is its row's word as 30_encoding.md R61 encodes it, and the one frame word that is neither
Debounce nor Head nor Tail is of class unknown. -/
theorem tableWordsDecode : Obligations.TableWordsDecode := by
  unfold Obligations.TableWordsDecode
  have hunknown : classifyV3 0x440064420190 = .unknown := by decide
  refine ⟨?byteIn, ?cfgLoad, ?debounce, ?headF1, ?tailF2, ?unknown, ?v1Frame⟩
  case byteIn => exact decodeTableWord_byteIn 0x90
  case cfgLoad => exact decodeTableWord_configWord (.inr rfl) 0x050000 500 .absent
  case debounce => exact decodeTableWord_of_decodeV3 decodeV3_debounceWord
  case headF1 => exact decodeTableWord_of_decodeV3 (decodeV3_headWord 1 ⟨0, 0, 0, 100, 3, 0, 400⟩ (by decide))
  case tailF2 => exact decodeTableWord_of_decodeV3 (decodeV3_tailWord 2 ⟨0, 0, 0, 400, 0, 0, 0, 200⟩)
  case unknown => exact decodeTableWord_of_decodeV3 (decodeV3_of_unknown 0x440064420190 hunknown)
  case v1Frame => exact decodeTableWord_shortFrame 0x24010300

end Sys2Proof.Machine
end
